-- ==== Sys2Proof/Word.lean ====
section
/-! DEFINITION. The word types of the block's ports, operands and registers (`10_state.md` R11 to R22).
Every operand is unsigned and is read whole (`30_encoding.md` R45). -/

namespace Sys2Proof

/-- A line level: `true` is the spec's 1, the line high (`00_scope.md` R8). -/
abbrev Level := Bool

/-- A pin identifier, `PIN_W` = 8 bits (`00_scope.md` R5). -/
abbrev PinId := BitVec 8

/-- A bit rate in bits per second, `RATE_W` = 32 bits (`00_scope.md` R5). -/
abbrev Rate := BitVec 32

/-- A payload word, `DATA_W` = 32 bits (`00_scope.md` R5). -/
abbrev Payload := BitVec 32

/-- A host command byte (`30_encoding.md` R42). -/
abbrev CmdByte := BitVec 8

/-- A TX micro-operation code, `u[1:0]` (`30_encoding.md` R44). -/
abbrev MicroCode := BitVec 2

/-- The core clock rate in Hz: a natural below 2^32 (`00_scope.md` R5, `40_timing_constants.md` R66).
That it is at least 1 is a clause of the machine's invariant. -/
abbrev ClockHz := Fin 4294967296

end Sys2Proof
end

