-- ==== Sys2Proof/Config.lean ====
section
/-! DEFINITION. What the spec leaves open: the OPEN parameter CORE_CLOCK_HZ and the free values (the spec's
draws). Each is an opaque constant without a body, so a claim about it holds for every value it could have. -/

namespace Sys2Proof

/-- CORE_CLOCK_HZ less one. The range of the type is the legal range 1 to 2^32 - 1 of `00_scope.md` R5.
DESIGN CHOICE, safe: log 7. -/
opaque Config.coreClockIndex : Fin 4294967295

/-- The OPEN parameter CORE_CLOCK_HZ (`00_scope.md` R5, D3), at least 1 and below 2^32.
DESIGN CHOICE, safe: log 7. -/
def Config.coreClockHz : ClockHz := Config.coreClockIndex.succ

/-- TX_INIT_LEVEL: the line level that the n-th draw gives an accepted TXBEGIN (`41_transmitter.md` R68, D10).
DESIGN CHOICE, safe: log 9. -/
opaque Config.txInitLevel : Nat → Level

/-- The level on `tx_line` while it is not driven (`93_implementation_defined.md` row 3, "any value").
DESIGN CHOICE, safe: log 10. -/
opaque Config.undrivenTxLine : Nat → Level

end Sys2Proof
end

