-- ==== Sys2Proof/Syntax.lean ====
section
/-! DEFINITION. The operations of the block: one constructor of `Instr` per row of spec/opcode_table.json,
with the operands of `30_encoding.md` R45, the agents that issue them, and the ports they arrive on. -/

namespace Sys2Proof

/-- The block's operations (`30_encoding.md` R43 and R44). -/
inductive Instr where
  /-- TXBEGIN, byte 0x00: configure the transmitter (`41_transmitter.md` R68). -/
  | txbegin (pin : PinId) (rate : Rate)
  /-- TXSEND, byte 0x01: emit one frame (`41_transmitter.md` R69). -/
  | txsend (data : Payload)
  /-- RXBEGIN, byte 0x02: configure and start the receiver (`42_receiver_config.md` R84). -/
  | rxbegin (pin : PinId) (rate : Rate)
  /-- RXHAS, byte 0x03: test for a completed frame (`44_accessors.md` R104). -/
  | rxhas
  /-- RXREAD, byte 0x04: wait for a frame, return it and re-arm the decoder (`44_accessors.md` R105). -/
  | rxread
  /-- TICK, event code 0x05: one decoder step with the sampled line level (`43_decoder.md` R86). -/
  | tick (level : Level)
  /-- TGL, u = 00: toggle the transmit line (`41_transmitter.md` R75). -/
  | tgl
  /-- WAITH, u = 01: wait half a bit period (`41_transmitter.md` R76). -/
  | waith
  /-- WAITF, u = 10: wait a full bit period (`41_transmitter.md` R77). -/
  | waitf
  /-- DRVLO, u = 11: drive the transmit line low (`41_transmitter.md` R78). -/
  | drvlo
deriving DecidableEq, Repr

/-- The agents that issue operations (`00_scope.md` R7). The line environment issues none: it supplies the
level of each TICK. -/
inductive Agent where
  | host
  | txSequencer
  | tickSource
deriving DecidableEq, Repr

/-- What the host presents on its ports with `cmd_valid = 1`: the command byte and every operand port
(`10_state.md` R11). A port the command does not list is ignored (`30_encoding.md` R45). -/
structure CmdPort where
  cmd    : CmdByte
  opPin  : PinId
  opRate : Rate
  opData : Payload
deriving DecidableEq, Repr

/-- An operation as it arrives, on the port it arrives on (`30_encoding.md` R42 to R45). -/
inductive Signal where
  /-- The host's command port. -/
  | cmd (p : CmdPort)
  /-- The tick source's pulse, by its 8-bit event code, with `rx_line` (`30_encoding.md` R43). -/
  | event (code : CmdByte) (rxLine : Level)
  /-- The TX sequencer's 2-bit micro-operation code (`30_encoding.md` R44). -/
  | micro (u : MicroCode)
deriving DecidableEq, Repr

/-- The agent whose port a signal arrives on. -/
def Signal.agent : Signal → Agent
  | .cmd _ => .host
  | .event _ _ => .tickSource
  | .micro _ => .txSequencer

end Sys2Proof
end

