-- ==== Sys2Proof/WellFormed.lean ====
section
/-! DEFINITION. Well-formedness: which agent may issue which operation. Every operand value of the types in
Syntax.lean is encodable (`30_encoding.md` R45); a rate the calculator cannot serve is refused by the command
itself (`40_timing_constants.md` R59 and R63), so it is no matter of form. -/

namespace Sys2Proof

/-- The agent that issues an operation (`30_encoding.md` R43 "issued by", R44). -/
def Instr.issuer : Instr → Agent
  | .txbegin _ _ => .host
  | .txsend _ => .host
  | .rxbegin _ _ => .host
  | .rxhas => .host
  | .rxread => .host
  | .tick _ => .tickSource
  | .tgl => .txSequencer
  | .waith => .txSequencer
  | .waitf => .txSequencer
  | .drvlo => .txSequencer

/-- An operation is well formed for an agent when that agent is the one that issues it: the host issues no TICK
and no micro-operation, and neither of the other agents issues a host command (`30_encoding.md` R43, R44, R46). -/
def Instr.wellFormedFor (a : Agent) (i : Instr) : Bool := decide (i.issuer = a)

end Sys2Proof
end

