-- ==== Sys2Proof/Decode.lean ====
section
/-! DEFINITION. The decoder, total on every signal and rejecting by name, and after it the encoder
(`30_encoding.md` R42 to R47). -/

namespace Sys2Proof

/-- The operation code `cmd[2:0]` (`30_encoding.md` R42). -/
def cmdOp (c : CmdByte) : BitVec 3 := c.extractLsb' 0 3

/-- The reserved field `cmd[7:3]`, which must be 00000 (`30_encoding.md` R42). -/
def cmdRsv (c : CmdByte) : BitVec 5 := c.extractLsb' 3 5

/-- Why a signal is no operation (`30_encoding.md` R46). -/
inductive DecodeError where
  /-- `op` is 110 or 111: reserved, issued by nobody. -/
  | reservedOp
  /-- `rsv` is not 00000. -/
  | reservedField
  /-- `op` is 101, TICK, on the `cmd` port. -/
  | tickOnCmdPort
  /-- A pulse on the `tick` port under an event code other than 0x05 (log 26). -/
  | notTheTickEvent
deriving DecidableEq, Repr

/-- What the decoder answers. -/
inductive Decoded where
  | instr (i : Instr)
  | rejected (e : DecodeError)
deriving DecidableEq, Repr

/-- TGL's code, `u = 00` (`30_encoding.md` R44). -/
def codeTgl : MicroCode := 0b00#2
/-- WAITH's code, `u = 01` (`30_encoding.md` R44). -/
def codeWaith : MicroCode := 0b01#2
/-- WAITF's code, `u = 10` (`30_encoding.md` R44). -/
def codeWaitf : MicroCode := 0b10#2
/-- DRVLO's code, `u = 11` (`30_encoding.md` R44). -/
def codeDrvlo : MicroCode := 0b11#2
/-- TICK's event code (`30_encoding.md` R43). -/
def codeTick : CmdByte := 0x05#8

/-- The command on the host's port. Each operand is read whole from its own port, and the other operand ports are
ignored (`30_encoding.md` R43, R45, R46). -/
def decodeCmd (p : CmdPort) : Decoded :=
  if cmdRsv p.cmd ≠ 0#5 then .rejected .reservedField
  else match cmdOp p.cmd with
    | 0b000#3 => .instr (.txbegin p.opPin p.opRate)
    | 0b001#3 => .instr (.txsend p.opData)
    | 0b010#3 => .instr (.rxbegin p.opPin p.opRate)
    | 0b011#3 => .instr .rxhas
    | 0b100#3 => .instr .rxread
    | 0b101#3 => .rejected .tickOnCmdPort
    | _ => .rejected .reservedOp

/-- A pulse on the `tick` port: event code 0x05 names it (`30_encoding.md` R43). -/
def decodeEvent (code : CmdByte) (rxLine : Level) : Decoded :=
  if code = codeTick then .instr (.tick rxLine) else .rejected .notTheTickEvent

/-- A micro-operation: all four codes are used (`30_encoding.md` R44). -/
def decodeMicro (u : MicroCode) : Instr :=
  if u = codeTgl then .tgl
  else if u = codeWaith then .waith
  else if u = codeWaitf then .waitf
  else .drvlo

/-- The operation a signal stands for, total on every signal. No mode bit changes how a command decodes
(`30_encoding.md` R47). -/
def decode : Signal → Decoded
  | .cmd p => decodeCmd p
  | .event code rxLine => decodeEvent code rxLine
  | .micro u => .instr (decodeMicro u)

/-- A command byte with the operand ports it lists, and 0 on the ports it does not list, which have no effect
(`30_encoding.md` R45; log 27). -/
def cmdSignal (cmd : CmdByte) (opPin : PinId) (opRate : Rate) (opData : Payload) : Signal :=
  .cmd ⟨cmd, opPin, opRate, opData⟩

/-- The encoder, from the code points of `30_encoding.md` R43 and R44. -/
def encode : Instr → Signal
  | .txbegin pin rate => cmdSignal 0x00#8 pin rate 0#32
  | .txsend data => cmdSignal 0x01#8 0#8 0#32 data
  | .rxbegin pin rate => cmdSignal 0x02#8 pin rate 0#32
  | .rxhas => cmdSignal 0x03#8 0#8 0#32 0#32
  | .rxread => cmdSignal 0x04#8 0#8 0#32 0#32
  | .tick level => .event codeTick level
  | .tgl => .micro codeTgl
  | .waith => .micro codeWaith
  | .waitf => .micro codeWaitf
  | .drvlo => .micro codeDrvlo

/-- The signal of an opcode-table row's bits: fewer than 8 bits are a micro-operation code; 8 bits are an event
code when they are TICK's, and a command byte with zeros on the operand ports otherwise. The rows of the formats
`cmd` and `txmicro` share their low values, so the count of bits tells them apart (log 15). -/
def tableSignal (nbits w : Nat) : Signal :=
  if nbits < 8 then .micro (BitVec.ofNat 2 w)
  else if BitVec.ofNat 8 w = codeTick then .event codeTick false
  else cmdSignal (BitVec.ofNat 8 w) 0#8 0#32 0#32

/-- The instruction the decoder reads from the bits of an opcode-table row, none where the bits do not fit the
row's format or the decoder rejects them (log 15). -/
def decodeTableWord (nbits w : Nat) : Option Instr :=
  if (if nbits < 8 then 4 else 256) ≤ w then none
  else match decode (tableSignal nbits w) with
    | .instr i => some i
    | .rejected _ => none

end Sys2Proof
end

