-- ==== Sys2Proof/Machine/State.lean ====
section
/-! DEFINITION. The machine's state as plain data: the registers of `10_state.md` R13 to R22, the host's side and
the observations of `70_reset_and_hazards.md` R142, what the outside world has still to present, and the model's
own counter of draws. The block has no memory (`20_memory.md` R27). -/

namespace Sys2Proof.Machine

/-- Transmitter configuration registers (`10_state.md` R13). Only TXBEGIN writes them. -/
structure TxConfig where
  /-- `tx_cfg_valid`, 1 bit: a TXBEGIN has been accepted. -/
  cfgValid : Bool
  /-- `tx_pin`, 8 bits. -/
  pin : PinId
  /-- `cyclesPerBit`, 32 bits: delay counts of a full bit period. -/
  cyclesPerBit : BitVec 32
  /-- `halfCount`, 32 bits: delay counts of half a bit period. -/
  halfCount : BitVec 32
deriving DecidableEq, Repr

/-- Transmitter run state (`10_state.md` R14). -/
structure TxRun where
  /-- `tx_busy`, 1 bit: a frame is being emitted. -/
  busy : Bool
  /-- `tx_word`, 32 bits: the payload latched by TXSEND. -/
  word : Payload
  /-- `tx_upc`, 9 bits: index of the next micro-operation. -/
  upc : BitVec 9
  /-- `tx_level`, 1 bit. -/
  level : Level
  /-- `tx_oe`, 1 bit: the transmit line is driven. -/
  oe : Bool
  /-- `tx_time`, an unbounded natural, observation only: core cycles since TXSEND was accepted. -/
  time : Nat
deriving DecidableEq, Repr

/-- Receiver configuration registers (`10_state.md` R15). Only RXBEGIN writes them. -/
structure RxConfig where
  /-- `rx_cfg_valid`, 1 bit: an RXBEGIN has been accepted. -/
  cfgValid : Bool
  /-- `rx_pin`, 8 bits. -/
  pin : PinId
  /-- `divider`, 11 bits. -/
  divider : BitVec 11
  /-- `reload`, TIMER_WIDTH = 16 bits. -/
  reload : BitVec 16
  /-- `tmr_en`, 1 bit: the tick source runs. -/
  tmrEn : Bool
deriving DecidableEq, Repr

/-- The decoder's `status`, 3 bits: five states and the three codes that no rule writes (`10_state.md` R17). -/
inductive Status where
  | init
  | idle
  | sync
  | reading
  | done
  | unused5
  | unused6
  | unused7
deriving DecidableEq, Repr

/-- The 3-bit code of a status (`10_state.md` R17). -/
def Status.code : Status → BitVec 3
  | .init => 0#3
  | .idle => 1#3
  | .sync => 2#3
  | .reading => 3#3
  | .done => 4#3
  | .unused5 => 5#3
  | .unused6 => 6#3
  | .unused7 => 7#3

/-- The decoder's working state (`10_state.md` R17 to R22). -/
structure Decoder where
  /-- `status`, 3 bits. -/
  status : Status
  /-- `shiftRegister`, 32 bits. -/
  shiftRegister : BitVec 32
  /-- `bitsReceived`, 8 bits, wrapping. -/
  bitsReceived : BitVec 8
  /-- `ticksSinceTransition`, 8 bits, saturating. -/
  ticksSinceTransition : BitVec 8
  /-- `transitionsThisCell`, 2 bits, saturating. -/
  transitionsThisCell : BitVec 2
  /-- `previousLevel`, 1 bit. -/
  previousLevel : Level
deriving DecidableEq, Repr

/-- The reasons a command is refused for (`60_exceptions.md` R110). The codes are the spec's own; no register of
the hardware holds them. -/
inductive RefuseReason where
  /-- Code 1, TXBEGIN or RXBEGIN: the bit rate is 0. -/
  | rateZero
  /-- Code 2, TXBEGIN: `cyclesPerBit(rate)` is below 2. -/
  | rateTooHighTx
  /-- Code 3, RXBEGIN: `SelectTick(rate).reload` is 0. -/
  | rateTooHighRx
  /-- Code 4, TXSEND: no TXBEGIN has been accepted. -/
  | sendBeforeBegin
  /-- Code 5, any byte on `cmd` that is reserved (`30_encoding.md` R46). -/
  | reservedCmd
deriving DecidableEq, Repr

/-- The code of a refusal (`60_exceptions.md` R110). -/
def RefuseReason.code : RefuseReason → Nat
  | .rateZero => 1
  | .rateTooHighTx => 2
  | .rateTooHighRx => 3
  | .sendBeforeBegin => 4
  | .reservedCmd => 5

/-- A result that the host received (`70_reset_and_hazards.md` R142). -/
inductive HostResult where
  /-- RXHAS's answer on `res_flag`. -/
  | flag (ready : Bool)
  /-- RXREAD's word on `res_data`. -/
  | data (word : Payload)
deriving DecidableEq, Repr

/-- An entry of the TX line trace (`41_transmitter.md` R81). DESIGN CHOICE: log 14. -/
inductive LineEvent where
  /-- TXSEND was accepted with the line at this level: time 0 of the entries after it. -/
  | frameStart (level : Level)
  /-- A TGL or DRVLO took effect at this `tx_time` and left the line at this level. -/
  | drive (time : Nat) (level : Level)
deriving DecidableEq, Repr

/-- One entry of the schedule: the agent that moves next (`00_scope.md` R7, `20_memory.md` R36).
DESIGN CHOICE, safe: log 1. -/
inductive Turn where
  /-- `rst` is raised (`70_reset_and_hazards.md` R125). -/
  | rst
  /-- The host presents its next command. -/
  | host
  /-- The TX sequencer takes its step. -/
  | txSequencer
  /-- A pulse on `tick`, with the level that the line environment puts on `rx_line`. -/
  | tickSource (rxLine : Level)
deriving DecidableEq, Repr

/-- Why a step ends in a fault. The block itself has no fault (`60_exceptions.md` R108). -/
inductive Fault where
  /-- Raised by `step` when the TX sequencer has its turn, `tx_busy` is 1 and `tx_upc` is past the end of
  `TxProgram(tx_word)`: `41_transmitter.md` R70 reads an entry that the list does not have. No state that a run
  reaches is of this kind. Safe: the machine stops where the spec gives no step (log 20). -/
  | txProgramOverrun
deriving DecidableEq, Repr

/-- Why a step is refused. -/
inductive Refusal where
  /-- Raised by an arm of `exec` whose instruction has no meaning yet; no arm is of this kind. Safe. -/
  | notModelled (mnemonic : String)
  /-- Raised by `step` in a state that carries a refusal mark, which "takes no further step"
  (`60_exceptions.md` R110). Safe: a claim about a run takes "no refusal" as a premise (log 4). -/
  | markedRefused (reason : RefuseReason)
deriving DecidableEq, Repr

/-- The whole machine. -/
structure State where
  /-- The parameter CORE_CLOCK_HZ (`00_scope.md` R5). No step writes it (log 7). -/
  coreClockHz : ClockHz
  /-- Transmitter configuration. -/
  txCfg : TxConfig
  /-- Transmitter run state. -/
  txRun : TxRun
  /-- Receiver configuration. -/
  rxCfg : RxConfig
  /-- Decoder working state. -/
  dec : Decoder
  /-- An RXREAD holds the host (`44_accessors.md` R105). The hold of a TXSEND is `tx_busy` (log 6). -/
  readHeld : Bool
  /-- The refusal mark and its reason (`60_exceptions.md` R110, log 4). -/
  mark : Option RefuseReason
  /-- The results the host has received, oldest first (`70_reset_and_hazards.md` R142, log 13). -/
  results : List HostResult
  /-- The TX line trace, oldest first (`41_transmitter.md` R81, log 14). -/
  txTrace : List LineEvent
  /-- The commands the host has still to present, next first (`41_transmitter.md` R83, log 16). -/
  hostProg : List CmdPort
  /-- The schedule, next first (`20_memory.md` R36, log 1). -/
  turns : List Turn
  /-- How many free values have been drawn (`00_scope.md` R10, log 9). -/
  draws : Nat
deriving DecidableEq, Repr

/-- Transmitter configuration after reset (`10_state.md` R26). -/
def TxConfig.reset : TxConfig := { cfgValid := false, pin := 0#8, cyclesPerBit := 0#32, halfCount := 0#32 }

/-- Transmitter run state after reset (`10_state.md` R26). -/
def TxRun.reset : TxRun :=
  { busy := false, word := 0#32, upc := 0#9, level := false, oe := false, time := 0 }

/-- Receiver configuration after reset (`10_state.md` R26). -/
def RxConfig.reset : RxConfig :=
  { cfgValid := false, pin := 0#8, divider := 1#11, reload := 1#16, tmrEn := false }

/-- Decoder state after reset (`10_state.md` R26), which RXBEGIN also writes (`42_receiver_config.md` R84). -/
def Decoder.reset : Decoder :=
  { status := .init, shiftRegister := 0#32, bitsReceived := 0#8, ticksSinceTransition := 0#8,
    transitionsThisCell := 0#2, previousLevel := false }

/-- The machine right after reset (`10_state.md` R26, `70_reset_and_hazards.md` R125), with nothing presented by
the outside world. The fields that are no registers have the values of logs 1, 4, 6, 7, 9, 13, 14 and 16. -/
def State.reset : State :=
  { coreClockHz := Config.coreClockHz, txCfg := TxConfig.reset, txRun := TxRun.reset, rxCfg := RxConfig.reset,
    dec := Decoder.reset, readHeld := false, mark := none, results := [], txTrace := [], hostProg := [],
    turns := [], draws := 0 }

end Sys2Proof.Machine
end

