-- ==== Sys2Proof/Machine/Flags.lean ====
section
/-! DEFINITION. The block's one flag, `data_ready` (`10_state.md` R23). There are no condition codes. -/

namespace Sys2Proof.Machine

/-- `data_ready`: `status == DONE`, combinational (`10_state.md` R23). -/
def dataReady (c : Decoder) : Bool := decide (c.status = .done)

end Sys2Proof.Machine
end

