-- ==== Sys2Proof/Machine/Params.lean ====
section
/-! DEFINITION. The fixed implementation parameters of `00_scope.md` R5. They are taken as the spec gives them;
the source's literals are unaudited (`91_not_in_source.md`, log 31). -/

namespace Sys2Proof.Machine

/-- `DATA_W`, the payload width in bits. -/
def dataW : Nat := 32
/-- `PREAMBLE_TX`, "1" symbols sent before the start marker. -/
def preambleTx : Nat := 31
/-- `PREAMBLE_MIN`, "1" symbols the decoder needs before SYNC. -/
def preambleMin : Nat := 8
/-- `GUARD_BITS`, bit periods the line is held low after the end marker. -/
def guardBits : Nat := 4
/-- `OS`, ticks per nominal bit (`40_timing_constants.md` R50). -/
def oversampling : Nat := 8
/-- `K`, core cycles per iteration of the delay primitive. -/
def cyclesPerCount : Nat := 4
/-- `DIVIDERS`, in search order (`40_timing_constants.md` R60). -/
def dividers : List Nat := [1, 8, 64, 256, 1024]
/-- `TIMER_WIDTH` (D4, log 8). -/
def timerWidth : Nat := 16
/-- `TIMER_MAX` = 2^TIMER_WIDTH - 1. -/
def timerMax : Nat := 2 ^ timerWidth - 1

end Sys2Proof.Machine
end

