-- ==== Sys2Proof/Machine/Calculator.lean ====
section
/-! DEFINITION. The threshold calculator (`40_timing_constants.md`): pure functions over the naturals with floored
division, which no intermediate value wraps (R66). -/

namespace Sys2Proof.Machine

/-- A percentage of the oversampling factor (`40_timing_constants.md` R51 to R53). -/
def percentOfOs (p : Nat) : Nat := oversampling * p / 100

/-- `MAXL`, 175% of 8 ticks (`40_timing_constants.md` R51), as the 8-bit hard-wired register of `10_state.md` R16. -/
def maxL : BitVec 8 := BitVec.ofNat 8 (percentOfOs 175)
/-- `MAXS`, 75% of 8 ticks (`40_timing_constants.md` R52). -/
def maxS : BitVec 8 := BitVec.ofNat 8 (percentOfOs 75)
/-- `MINS`, 25% of 8 ticks (`40_timing_constants.md` R53). -/
def minS : BitVec 8 := BitVec.ofNat 8 (percentOfOs 25)
/-- The lower bound of a two-transition cell, `2·MINS`: a product and no register (`40_timing_constants.md` R55). -/
def twiceMinS : BitVec 8 := 2#8 * minS

/-- `cyclesPerBit(rate)`, for `rate` at least 1 (`40_timing_constants.md` R57). -/
def cyclesPerBit (clock rate : Nat) : Nat := clock / cyclesPerCount / rate

/-- `halfCount` of a full-bit count (`40_timing_constants.md` R58). -/
def halfCount (c : Nat) : Nat := c / 2

/-- The divider search over the dividers still to try, with the clamp where none fits
(`40_timing_constants.md` R61 and R62). -/
def searchDivider (clock limit samples : Nat) : List Nat → Nat × Nat
  | [] => (1024, limit)
  | d :: ds =>
    let r := clock / d / samples
    if r < limit then (d, r) else searchDivider clock limit samples ds

/-- `SelectTick(rate)`, for `rate` at least 1 and a timer whose maximum count is `limit`: the pair of divider and
reload (`40_timing_constants.md` R61). -/
def selectTick (clock limit rate : Nat) : Nat × Nat :=
  searchDivider clock limit (rate * oversampling) dividers

end Sys2Proof.Machine
end

