-- ==== Sys2Proof/Machine/Operands.lean ====
section
/-! DEFINITION. The checks on the bit-rate operand, in the order of the spec (`40_timing_constants.md` R59 and
R63, `60_exceptions.md` R114). Every other operand value is legal (`30_encoding.md` R45). -/

namespace Sys2Proof.Machine

/-- TXBEGIN's preconditions: the reason for a refusal, none where the rate is accepted
(`40_timing_constants.md` R59). -/
def txRateRefusal (clock rate : Nat) : Option RefuseReason :=
  if rate = 0 then some .rateZero
  else if cyclesPerBit clock rate < 2 then some .rateTooHighTx
  else none

/-- RXBEGIN's preconditions (`40_timing_constants.md` R63). -/
def rxRateRefusal (clock rate : Nat) : Option RefuseReason :=
  if rate = 0 then some .rateZero
  else if (selectTick clock timerMax rate).2 = 0 then some .rateTooHighRx
  else none

end Sys2Proof.Machine
end

