-- ==== Sys2Proof/Machine/TxProgram.lean ====
section
/-! DEFINITION. The frame that one TXSEND emits, as symbols and as micro-operations (`41_transmitter.md` R71 to
R74). -/

namespace Sys2Proof.Machine

/-- The number of 1 bits of a payload (`00_scope.md` R9). -/
def popcount (d : Payload) : Nat := (List.range dataW).countP (fun i => d.getLsbD i)

/-- The payload's bits, `d[31]` first (`20_memory.md` R30, `41_transmitter.md` R71). -/
def payloadBits (d : Payload) : List Bool := (List.range dataW).map (fun k => d.getLsbD (dataW - 1 - k))

/-- A "1" symbol (`41_transmitter.md` R72). -/
def sym1 : List MicroCode := [codeTgl, codeWaith, codeTgl, codeWaith]

/-- A "0" symbol (`41_transmitter.md` R73). -/
def sym0 : List MicroCode := [codeTgl, codeWaitf]

/-- The symbol of a bit (`41_transmitter.md` R71). -/
def sym (b : Bool) : List MicroCode := if b then sym1 else sym0

/-- The guard: the line low for 4 full bit periods (`41_transmitter.md` R74). -/
def guardOps : List MicroCode := codeDrvlo :: List.replicate guardBits codeWaitf

/-- `TxProgram(d)`: preamble, start marker, payload, end marker, guard (`41_transmitter.md` R71). -/
def txProgram (d : Payload) : List MicroCode :=
  (List.replicate preambleTx sym1).flatten ++ sym0 ++ (payloadBits d).flatMap sym ++ sym0 ++ guardOps

/-- The 65 symbols of a frame as bits (`43_decoder.md` R100). -/
def frameSymbols (d : Payload) : List Bool :=
  List.replicate preambleTx true ++ [false] ++ payloadBits d ++ [false]

end Sys2Proof.Machine
end

