-- ==== Sys2Proof/Machine/Ops.lean ====
section
/-! DEFINITION. The named operations over the state that the meanings share: the counters' arithmetic
(`00_scope.md` R9), the writes of each part of the state, and the block's stand-in for taking an exception, the
refusal (`60_exceptions.md` R110). The block has no exception, no trap entry and no return from one
(`60_exceptions.md` R108, R115, R116). -/

namespace Sys2Proof.Machine

/-- `sat_inc_W` (`00_scope.md` R9). -/
def satInc {w : Nat} (v : BitVec w) : BitVec w := if v = BitVec.allOnes w then v else v + 1#w

/-- `wrap_inc_W` (`00_scope.md` R9). -/
def wrapInc {w : Nat} (v : BitVec w) : BitVec w := v + 1#w

/-- `shl1_32` with a bit put in at bit 0 (`00_scope.md` R9, `43_decoder.md` R91 and R94). -/
def shiftIn (v : BitVec 32) (b : Bool) : BitVec 32 := (v <<< 1) ||| (if b then 1#32 else 0#32)

/-- Refuse a command: the mark and its reason are set and nothing else changes (`60_exceptions.md` R110). -/
def State.refuse (s : State) (r : RefuseReason) : State := { s with mark := some r }

/-- Write the transmitter configuration. -/
def State.withTxCfg (s : State) (c : TxConfig) : State := { s with txCfg := c }

/-- Write the transmitter run state. -/
def State.withTxRun (s : State) (r : TxRun) : State := { s with txRun := r }

/-- Write the receiver configuration. -/
def State.withRxCfg (s : State) (c : RxConfig) : State := { s with rxCfg := c }

/-- Write the decoder's working state. -/
def State.withDec (s : State) (c : Decoder) : State := { s with dec := c }

/-- Hold the host in RXREAD, or let it go (`44_accessors.md` R105). -/
def State.withReadHeld (s : State) (h : Bool) : State := { s with readHeld := h }

/-- Return a result to the host (`00_scope.md` R10 `return`). -/
def State.pushResult (s : State) (r : HostResult) : State := { s with results := s.results ++ [r] }

/-- Record an event of the TX line (`41_transmitter.md` R81). -/
def State.pushTrace (s : State) (e : LineEvent) : State := { s with txTrace := s.txTrace ++ [e] }

/-- Leave the host with these commands to present. -/
def State.withHostProg (s : State) (p : List CmdPort) : State := { s with hostProg := p }

/-- Leave these turns in the schedule. -/
def State.withTurns (s : State) (ts : List Turn) : State := { s with turns := ts }

/-- A draw has been made (`00_scope.md` R10 `draw`). -/
def State.nextDraw (s : State) : State := { s with draws := s.draws + 1 }

/-- The hold of the host: a TXSEND until its frame ends, an RXREAD until DONE (`10_state.md` R11 `host_hold`,
log 6). -/
def State.hostHold (s : State) : Bool := s.txRun.busy || s.readHeld

/-- `wait_cycles(n)`: `tx_time` moves on by n core cycles and nothing else changes (`00_scope.md` R10). -/
def State.waitCycles (s : State) (n : Nat) : State := s.withTxRun { s.txRun with time := s.txRun.time + n }

/-- Drive the transmit line at the current `tx_time` (`41_transmitter.md` R75, R78, R81). -/
def State.driveLine (s : State) (level : Level) : State :=
  (s.withTxRun { s.txRun with level := level }).pushTrace (.drive s.txRun.time level)

/-- The micro-operation the sequencer is at, `TxProgram(tx_word)[tx_upc]`; none past the end
(`41_transmitter.md` R70). -/
def State.microAt (s : State) : Option MicroCode := (txProgram s.txRun.word)[s.txRun.upc.toNat]?

/-- The part of the sequencer's step after its micro-operation: `tx_upc` goes up by one, and the frame ends when it
reaches the program's length (`41_transmitter.md` R70). -/
def State.txAdvance (s : State) : State :=
  let upc := s.txRun.upc + 1#9
  s.withTxRun { s.txRun with
    upc := upc,
    busy := if upc.toNat = (txProgram s.txRun.word).length then false else s.txRun.busy }

/-- Power-on reset: every register takes its reset value, and a command in progress is abandoned without a result
(`70_reset_and_hazards.md` R125). What the outside world presents, what has been observed, the clock rate and the
count of draws are no registers and stay (log 12). -/
def State.powerOnReset (s : State) : State :=
  { s with txCfg := TxConfig.reset, txRun := TxRun.reset, rxCfg := RxConfig.reset, dec := Decoder.reset,
           readHeld := false }

end Sys2Proof.Machine
end

