-- ==== Sys2Proof/Machine/Receiver.lean ====
section
/-! DEFINITION. The receiver's operations: RXBEGIN (`42_receiver_config.md`), TICK (`43_decoder.md`), RXHAS and
RXREAD (`44_accessors.md`). -/

namespace Sys2Proof.Machine

/-- RXBEGIN: run the divider search, start the tick source and put the whole decoder at its start values
(`42_receiver_config.md` R84). -/
def execRxbegin (pin : PinId) (rate : Rate) (s : State) : Host.Outcome State Fault Refusal :=
  match rxRateRefusal s.coreClockHz.val rate.toNat with
  | some r => .next (s.refuse r)
  | none =>
    let dr := selectTick s.coreClockHz.val timerMax rate.toNat
    .next ((s.withRxCfg
      { cfgValid := true, pin := pin, divider := BitVec.ofNat 11 dr.1, reload := BitVec.ofNat 16 dr.2,
        tmrEn := true }).withDec Decoder.reset)

/-- Discard the frame in progress; the other fields keep their values (`60_exceptions.md` R109). -/
def discardFrame (c : Decoder) : Decoder := { c with status := .init }

/-- The end of a cell: one more bit counted, and the next cell starts (`43_decoder.md` R91 and R94). -/
def endCell (c : Decoder) : Decoder :=
  { c with bitsReceived := wrapInc c.bitsReceived, ticksSinceTransition := 0#8, transitionsThisCell := 0#2 }

/-- A payload bit enters the shift register; the 32nd one finishes the frame (`43_decoder.md` R91 and R94). -/
def appendBit (b : Bool) (c : Decoder) : Decoder :=
  { c with
    shiftRegister := shiftIn c.shiftRegister b,
    status := if dataW ≤ c.bitsReceived.toNat then .done else c.status }

/-- A "0" symbol has ended, by status (`43_decoder.md` R91). -/
def zeroSymbol (c : Decoder) : Decoder :=
  match c.status with
  | .sync => { endCell c with bitsReceived := 0#8, status := .reading }
  | .reading => appendBit false (endCell c)
  | _ => discardFrame (endCell c)

/-- A "1" symbol has ended, by status (`43_decoder.md` R94). -/
def oneSymbol (c : Decoder) : Decoder :=
  match c.status with
  | .idle =>
    { endCell c with status := if preambleMin ≤ (endCell c).bitsReceived.toNat then .sync else .idle }
  | .sync => endCell c
  | .reading => appendBit true (endCell c)
  | _ => discardFrame (endCell c)

/-- The first transition of a cell: out of window, long or short (`43_decoder.md` R90, R91, R92). -/
def firstTransition (c : Decoder) : Decoder :=
  if maxL < c.ticksSinceTransition ∨ c.ticksSinceTransition < minS then discardFrame c
  else if maxS < c.ticksSinceTransition then zeroSymbol c
  else c

/-- The second transition of a cell: out of window or a "1" symbol (`43_decoder.md` R93, R94). -/
def secondTransition (c : Decoder) : Decoder :=
  if maxL < c.ticksSinceTransition ∨ c.ticksSinceTransition < twiceMinS then discardFrame c
  else oneSymbol c

/-- The line changed since the last tick (`43_decoder.md` R89 to R95). -/
def onTransition (c : Decoder) : Decoder :=
  let c := { c with transitionsThisCell := satInc c.transitionsThisCell }
  if c.transitionsThisCell = 1#2 then firstTransition c
  else if c.transitionsThisCell = 2#2 then secondTransition c
  else discardFrame c

/-- Step 3 of a tick: sample the line (`43_decoder.md` R89). -/
def sampleLine (level : Level) (c : Decoder) : Decoder :=
  let sampled := { c with previousLevel := level, ticksSinceTransition := satInc c.ticksSinceTransition }
  if level = c.previousLevel then sampled else onTransition sampled

/-- The INIT tick: the working state is cleared and the level is the baseline (`43_decoder.md` R88). -/
def initTick (level : Level) : Decoder := { Decoder.reset with previousLevel := level, status := .idle }

/-- One decoder step (`43_decoder.md` R86). -/
def decoderTick (level : Level) (c : Decoder) : Decoder :=
  match c.status with
  | .done => c
  | .init => initTick level
  | _ => sampleLine level c

/-- TICK (`43_decoder.md` R86). -/
def execTick (level : Level) (s : State) : Host.Outcome State Fault Refusal :=
  .next (s.withDec (decoderTick level s.dec))

/-- RXHAS: answer `data_ready` on `res_flag` and write no state (`44_accessors.md` R104). -/
def execRxhas (s : State) : Host.Outcome State Fault Refusal :=
  .next (s.pushResult (.flag (Machine.dataReady s.dec)))

/-- RXREAD: with a word held, return it and re-arm the decoder in one step; otherwise hold the host
(`44_accessors.md` R105). A held RXREAD runs again, by `step`, at the first point where `status` is DONE (log 5). -/
def execRxread (s : State) : Host.Outcome State Fault Refusal :=
  if Machine.dataReady s.dec then
    .next (((s.withDec { s.dec with status := .init }).withReadHeld false).pushResult (.data s.dec.shiftRegister))
  else .next (s.withReadHeld true)

end Sys2Proof.Machine
end

