-- ==== Sys2Proof/Machine/Transmitter.lean ====
section
/-! DEFINITION. The transmitter's operations: TXBEGIN, TXSEND and the micro-operations TGL, WAITH, WAITF, DRVLO
(`41_transmitter.md`). A micro-operation's meaning is its own effect; the sequencer's step around it, which moves
`tx_upc`, is `State.txAdvance` (R70). -/

namespace Sys2Proof.Machine

/-- TXBEGIN: configure the transmitter (`41_transmitter.md` R68). The line level is a draw (log 9). -/
def execTxbegin (pin : PinId) (rate : Rate) (s : State) : Host.Outcome State Fault Refusal :=
  match txRateRefusal s.coreClockHz.val rate.toNat with
  | some r => .next (s.refuse r)
  | none =>
    let c := cyclesPerBit s.coreClockHz.val rate.toNat
    .next (((s.withTxCfg
      { cfgValid := true, pin := pin, cyclesPerBit := BitVec.ofNat 32 c,
        halfCount := BitVec.ofNat 32 (halfCount c) }).withTxRun
      { s.txRun with oe := true, level := Config.txInitLevel s.draws }).nextDraw)

/-- TXSEND: latch the payload and start the sequencer, which holds the host while `tx_busy` is 1
(`41_transmitter.md` R69). -/
def execTxsend (data : Payload) (s : State) : Host.Outcome State Fault Refusal :=
  if s.txCfg.cfgValid then
    .next ((s.withTxRun { s.txRun with word := data, upc := 0#9, time := 0, busy := true }).pushTrace
      (.frameStart s.txRun.level))
  else .next (s.refuse .sendBeforeBegin)

/-- TGL: toggle the transmit line, in 0 core cycles (`41_transmitter.md` R75). -/
def execTgl (s : State) : Host.Outcome State Fault Refusal := .next (s.driveLine (!s.txRun.level))

/-- WAITH: wait half a bit period, `halfCount × K` core cycles (`41_transmitter.md` R76). -/
def execWaith (s : State) : Host.Outcome State Fault Refusal :=
  .next (s.waitCycles (s.txCfg.halfCount.toNat * cyclesPerCount))

/-- WAITF: wait a full bit period, `cyclesPerBit × K` core cycles (`41_transmitter.md` R77). -/
def execWaitf (s : State) : Host.Outcome State Fault Refusal :=
  .next (s.waitCycles (s.txCfg.cyclesPerBit.toNat * cyclesPerCount))

/-- DRVLO: drive the transmit line low, in 0 core cycles (`41_transmitter.md` R78). -/
def execDrvlo (s : State) : Host.Outcome State Fault Refusal := .next (s.driveLine false)

end Sys2Proof.Machine
end

