-- ==== Sys2Proof/Machine/Dispatch.lean ====
section
/-! DEFINITION. Which meaning each operation has: one arm per constructor of `Instr`. -/

namespace Sys2Proof.Machine

def exec (i : Instr) (s : State) : Host.Outcome State Fault Refusal :=
  match i with
  | .txbegin pin rate => Sys2Proof.Machine.execTxbegin pin rate s
  | .txsend data => Sys2Proof.Machine.execTxsend data s
  | .rxbegin pin rate => Sys2Proof.Machine.execRxbegin pin rate s
  | .rxhas => Sys2Proof.Machine.execRxhas s
  | .rxread => Sys2Proof.Machine.execRxread s
  | .tick level => Sys2Proof.Machine.execTick level s
  | .tgl => Sys2Proof.Machine.execTgl s
  | .waith => Sys2Proof.Machine.execWaith s
  | .waitf => Sys2Proof.Machine.execWaitf s
  | .drvlo => Sys2Proof.Machine.execDrvlo s

end Sys2Proof.Machine
end

