-- ==== Sys2Proof/Machine/Fetch.lean ====
section
/-! DEFINITION. Which agent moves and which operation it brings: the block fetches no instruction from memory
(`10_state.md` R12). The next entry of the schedule names the agent, and the agent's port or the frame's program
gives the operation, which the decoder reads (`00_scope.md` R7, `20_memory.md` R36). -/

namespace Sys2Proof.Machine

/-- What a step has to do. -/
inductive Fetched where
  /-- The state carries a refusal mark and takes no step (`60_exceptions.md` R110). -/
  | halted (r : RefuseReason)
  /-- The sequencer is past the end of its program. -/
  | overrun
  /-- No operation runs in this step: this is the state after it. -/
  | quiet (s : State)
  /-- This operation runs in this state. -/
  | operation (i : Instr) (s : State)
  /-- This micro-operation runs in this state, and then the sequencer moves on. -/
  | microOp (i : Instr) (s : State)
deriving DecidableEq, Repr

/-- The host's next command. It is taken from the port, decoded, and refused where the byte is reserved
(`30_encoding.md` R42 and R46); a host with no further command does nothing. -/
def fetchCommand (s : State) : Fetched :=
  match s.hostProg with
  | [] => .quiet s
  | p :: rest =>
    match decode (.cmd p) with
    | .instr i => .operation i (s.withHostProg rest)
    | .rejected _ => .quiet ((s.withHostProg rest).refuse .reservedCmd)

/-- The TX sequencer's next micro-operation (`41_transmitter.md` R70). -/
def fetchMicro (s : State) : Fetched :=
  match s.microAt with
  | none => .overrun
  | some u => .microOp (decodeMicro u) s

/-- A pulse on the `tick` port: one TICK with the level of `rx_line` (`60_exceptions.md` R111, R112). -/
def fetchTick (rxLine : Level) (s : State) : Fetched :=
  match decode (.event codeTick rxLine) with
  | .instr i => .operation i s
  | .rejected _ => .quiet s

/-- The step of the agent whose turn it is. An agent with no enabled step lets its turn pass: a held host
(`41_transmitter.md` R69, `44_accessors.md` R105), an idle sequencer (`41_transmitter.md` R70), a tick source
that is off (`42_receiver_config.md` R85). Logs 1 and 2. -/
def fetchTurn (t : Turn) (s : State) : Fetched :=
  match t with
  | .rst => .quiet s.powerOnReset
  | .host => if s.hostHold then .quiet s else fetchCommand s
  | .txSequencer => if s.txRun.busy then fetchMicro s else .quiet s
  | .tickSource rxLine => if s.rxCfg.tmrEn then fetchTick rxLine s else .quiet s

/-- The next step. A refused state has none; a held RXREAD is taken at the first point where `status` is DONE
(`44_accessors.md` R105, log 5); otherwise the schedule says which agent moves, and with no turn left nothing
moves (`70_reset_and_hazards.md` R126, log 3). -/
def State.fetch (s : State) : Fetched :=
  match s.mark with
  | some r => .halted r
  | none =>
    if s.readHeld && Machine.dataReady s.dec then .operation .rxread s
    else match s.turns with
      | [] => .quiet s
      | t :: ts => fetchTurn t (s.withTurns ts)

/-- Run the rest of the sequencer's step after a micro-operation (`41_transmitter.md` R70). -/
def thenAdvance (o : Host.Outcome State Fault Refusal) : Host.Outcome State Fault Refusal :=
  match o with
  | .next s => .next s.txAdvance
  | .fault r => .fault r
  | .refused r => .refused r

/-- Where the frame of payload 0 has each micro-operation: TGL at 0, WAITH at 1, the start marker's WAITF at 125
and DRVLO at 192 (`41_transmitter.md` R71 to R74). -/
def microIndex (u : MicroCode) : BitVec 9 :=
  if u = codeTgl then 0#9
  else if u = codeWaith then 1#9
  else if u = codeWaitf then 125#9
  else 192#9

/-- Put a signal where the next step takes it from, with all that this needs and nothing else: no refusal mark and
no held RXREAD in the way; for a command a free host, for a pulse a running tick source, for a micro-operation a
frame that has it next (log 16). -/
def State.present (s : State) (sig : Signal) : State :=
  match sig with
  | .cmd p =>
    { s with mark := none, readHeld := false, txRun := { s.txRun with busy := false },
             hostProg := p :: s.hostProg, turns := .host :: s.turns }
  | .event _ rxLine =>
    { s with mark := none, readHeld := s.readHeld && !Machine.dataReady s.dec,
             rxCfg := { s.rxCfg with tmrEn := true }, turns := .tickSource rxLine :: s.turns }
  | .micro u =>
    { s with mark := none, readHeld := s.readHeld && !Machine.dataReady s.dec,
             txRun := { s.txRun with busy := true, word := 0#32, upc := microIndex u },
             turns := .txSequencer :: s.turns }

end Sys2Proof.Machine
end

