-- ==== Sys2Proof/Machine/Step.lean ====
section
/-! DEFINITION. One step of the machine: what is fetched is run. -/

namespace Sys2Proof.Machine

/-- One step of whichever agent moves (`00_scope.md` R6 and R7, `20_memory.md` R36). -/
def step (s : State) : Host.Outcome State Fault Refusal :=
  match s.fetch with
  | .halted r => .refused (.markedRefused r)
  | .overrun => .fault .txProgramOverrun
  | .quiet t => .next t
  | .operation i t => exec i t
  | .microOp i t => thenAdvance (exec i t)

/-- The state in which the next step fetches and runs the operation of an opcode-table row's bits (log 16). -/
def State.withFetchWord (s : State) (nbits w : Nat) : State := s.present (tableSignal nbits w)

end Sys2Proof.Machine
end

