-- ==== Sys2Proof/Machine/Channel.lean ====
section
/-! DEFINITION. The decoder over many ticks, the ideal channel (`43_decoder.md` R100), the states from which a
frame is acquired (`43_decoder.md` R101), and cells of any length (`70_reset_and_hazards.md` R135). -/

namespace Sys2Proof.Machine

/-- The decoder after a sequence of ticks with these levels. -/
def decoderFeed (ls : List Level) (c : Decoder) : Decoder := ls.foldl (fun c l => decoderTick l c) c

/-- The level after a symbol that starts from level x: a "1" toggles twice, a "0" once (`41_transmitter.md`
R73). -/
def levelAfter (b : Bool) (x : Level) : Level := if b then x else !x

/-- The 8 samples of one symbol that starts from level x (`43_decoder.md` R100). -/
def symbolSamples (b : Bool) (x : Level) : List Level :=
  List.replicate 4 (!x) ++ List.replicate 4 (levelAfter b x)

/-- The samples of a sequence of symbols that starts from level x (`43_decoder.md` R100). -/
def lineSamples : List Bool → Level → List Level
  | [], _ => []
  | b :: bs, x => symbolSamples b x ++ lineSamples bs (levelAfter b x)

/-- The level at the end of a sequence of symbols. -/
def levelAtEnd (bs : List Bool) (x : Level) : Level := bs.foldl (fun x b => levelAfter b x) x

/-- `IdealSamples(d, L0)`, frame ticks 1 to 552: 520 ticks of symbols and 32 of guard (`43_decoder.md` R100). -/
def idealSamples (d : Payload) (l0 : Level) : List Level :=
  lineSamples (frameSymbols d) l0 ++ List.replicate (guardBits * oversampling) false

/-- The level that frame tick j sees, j counting from 1; low for ever after the guard (`43_decoder.md` R100). -/
def idealLevel (d : Payload) (l0 : Level) (j : Nat) : Level := (idealSamples d l0).getD (j - 1) false

/-- The states "A" just before frame tick 1 from which a frame is received, with the line at level l0
(`43_decoder.md` R101). -/
abbrev Acquirable (c : Decoder) (l0 : Level) : Prop :=
  c.status = .init ∨
  ((c.status = .idle ∨ c.status = .sync ∨ c.status = .reading) ∧ c.previousLevel = l0 ∧
    14 ≤ c.ticksSinceTransition.toNat) ∨
  (c.status = .idle ∧ c.previousLevel = l0 ∧ c.transitionsThisCell = 0#2 ∧
    ¬(1 ≤ c.ticksSinceTransition.toNat ∧ c.ticksSinceTransition.toNat ≤ 5))

/-- A received cell: its bit, the tick of its mid-cell transition if it is a "1", and its length in ticks, both
counted from the transition that starts it (`70_reset_and_hazards.md` R135). -/
structure Cell where
  bit : Bool
  mid : Nat
  len : Nat
deriving DecidableEq, Repr

/-- The windows in which a cell decodes: a "0" in 7 to 14 ticks; a "1" with its middle at 2 to 6 ticks and its end
at 4 to 14 (`40_timing_constants.md` R56, `70_reset_and_hazards.md` R135). -/
abbrev Cell.inWindow (k : Cell) : Prop :=
  if k.bit then 2 ≤ k.mid ∧ k.mid ≤ 6 ∧ k.mid < k.len ∧ 4 ≤ k.len ∧ k.len ≤ 14
  else 7 ≤ k.len ∧ k.len ≤ 14

/-- The ticks after the transition that starts a cell with the line at level x, up to the transition that ends
it. -/
def Cell.samples (k : Cell) (x : Level) : List Level :=
  if k.bit then List.replicate (k.mid - 1) x ++ List.replicate (k.len - k.mid) (!x) ++ [x]
  else List.replicate (k.len - 1) x ++ [!x]

/-- The ticks of a sequence of cells, the line at level x after the transition that starts the first. -/
def cellsSamples : List Cell → Level → List Level
  | [], _ => []
  | k :: ks, x => k.samples x ++ cellsSamples ks (levelAfter k.bit x)

end Sys2Proof.Machine
end

