-- ==== Sys2Proof/Machine/Timed.lean ====
section
/-! DEFINITION. The timed reading (`42_receiver_config.md` R85, `41_transmitter.md` R81): the instants of ticks and
the level of the transmit line at an instant. No step reads it (log 11). Instants are rational numbers of core
cycles. -/

namespace Sys2Proof.Machine

/-- The tick period in core cycles (`40_timing_constants.md` R64). -/
def State.tickPeriod (s : State) : Nat := s.rxCfg.reload.toNat * s.rxCfg.divider.toNat

/-- The instant of TICK n, counting from 1, after an RXBEGIN at `tRx` with the drawn phase
(`42_receiver_config.md` R85, `70_reset_and_hazards.md` R141). -/
def tickInstant (tRx phase : ℚ) (period n : Nat) : ℚ := tRx + phase + ((n : ℚ) - 1) * (period : ℚ)

/-- The line events of a sequence of symbols from an instant and a level, each symbol `cell` cycles long with the
second toggle of a "1" at `half` cycles (`41_transmitter.md` R81). -/
def symbolEvents (cell half : Nat) : Nat → Level → List Bool → List LineEvent
  | _, _, [] => []
  | t, x, b :: bs =>
    .drive t (!x) :: ((if b then [.drive (t + half) x] else []) ++
      symbolEvents cell half (t + cell) (levelAfter b x) bs)

/-- The line events of a frame for an even count c of full-bit delay iterations: symbol s begins at `s × c × K`, a
"1" toggles again `(c/2) × K` later, and DRVLO acts at `65 × c × K` (`41_transmitter.md` R81). -/
def frameEvents (c : Nat) (d : Payload) (l0 : Level) : List LineEvent :=
  symbolEvents (c * cyclesPerCount) (c / 2 * cyclesPerCount) 0 l0 (frameSymbols d) ++
    [.drive (65 * (c * cyclesPerCount)) false]

/-- The line's level at an instant: that of the latest event at or before it, and the level x before the first
(`41_transmitter.md` R81: "The line level between two events is the level the earlier event set"). -/
def levelAt : List LineEvent → Level → ℚ → Level
  | [], x, _ => x
  | .frameStart l :: es, _, t => levelAt es l t
  | .drive u l :: es, x, t => if (u : ℚ) ≤ t then levelAt es l t else x

end Sys2Proof.Machine
end

