-- ==== Sys2Proof/Machine/Ports.lean ====
section
/-! DEFINITION. The ports of `10_state.md` R11 that are views of the state, and the hard-wired threshold registers
of `10_state.md` R16. -/

namespace Sys2Proof.Machine

/-- `MAXL`: no operation writes it (`10_state.md` R16, log 24). -/
def State.maxL (_ : State) : BitVec 8 := Machine.maxL
/-- `MAXS` (`10_state.md` R16). -/
def State.maxS (_ : State) : BitVec 8 := Machine.maxS
/-- `MINS` (`10_state.md` R16). -/
def State.minS (_ : State) : BitVec 8 := Machine.minS

/-- `cmd_valid`: the host presents a command (`10_state.md` R11). The spec gives no handshake on the port. The model holds
it at 1 as long as the host has a command left, while the host is held or another agent moves too. DESIGN CHOICE: log 25. -/
def State.cmdValid (s : State) : Bool := !s.hostProg.isEmpty
/-- `cmd` and the operand ports, while `cmd_valid` is 1: those of the command the host issues next, during a hold too, and
no value while it has none left. DESIGN CHOICE: log 25. -/
def State.cmdPort (s : State) : Option CmdPort := s.hostProg.head?
/-- `tick` with `rx_line`, exactly while the tick source has the next turn. DESIGN CHOICE: log 25. -/
def State.tickPort (s : State) : Option Level :=
  match s.turns with
  | .tickSource l :: _ => some l
  | _ => none
/-- `rst`, exactly while reset has the next turn. DESIGN CHOICE: log 25. -/
def State.rstPort (s : State) : Bool := decide (s.turns.head? = some .rst)

/-- `tx_line`: the level while driven, any value while not (`93_implementation_defined.md` row 3, log 10). -/
def State.txLine (s : State) : Level := if s.txRun.oe then s.txRun.level else Config.undrivenTxLine s.draws
/-- `tx_oe`. -/
def State.txOe (s : State) : Bool := s.txRun.oe
/-- `tx_pin_sel`. -/
def State.txPinSel (s : State) : PinId := s.txCfg.pin
/-- `rx_pin_sel`. -/
def State.rxPinSel (s : State) : PinId := s.rxCfg.pin
/-- `tmr_divider`. -/
def State.tmrDivider (s : State) : BitVec 11 := s.rxCfg.divider
/-- `tmr_reload`. -/
def State.tmrReload (s : State) : BitVec 16 := s.rxCfg.reload
/-- `tmr_enable`. -/
def State.tmrEnable (s : State) : Bool := s.rxCfg.tmrEn
/-- `data_ready` (`10_state.md` R23). -/
def State.dataReady (s : State) : Bool := Machine.dataReady s.dec

/-- The flag in a result, if it is one. -/
def HostResult.flag? : HostResult → Option Bool
  | .flag b => some b
  | .data _ => none
/-- The word in a result, if it is one. -/
def HostResult.data? : HostResult → Option Payload
  | .flag _ => none
  | .data w => some w
/-- `res_flag`: RXHAS's latest result, none before the first (log 13). -/
def State.resFlag (s : State) : Option Bool := (s.results.filterMap HostResult.flag?).getLast?
/-- `res_data`: RXREAD's latest result, none before the first (log 13). -/
def State.resData (s : State) : Option Payload := (s.results.filterMap HostResult.data?).getLast?

end Sys2Proof.Machine
end

