-- ==== Sys2Proof/Machine/Run.lean ====
section
/-! DEFINITION. A run of several steps, under its own name and types. -/

namespace Sys2Proof.Machine

/-- `n` steps of the machine, ending at the first fault or refusal: the host's `Host.Core.run` of `core`. -/
def runSteps (n : Nat) (s : State) : Host.Outcome State Fault Refusal := Host.Core.run core n s

end Sys2Proof.Machine
end

