-- ==== Sys2Proof/Safety.lean ====
section
/-! DEFINITION. What the claims mean by a legal state and by the end of a run. -/

namespace Sys2Proof.Machine

/-- The decoder's invariant: no unused status code (`10_state.md` R17); at most one transition in an open cell,
and none before its second tick (`43_decoder.md` R96, `40_timing_constants.md` R56; log 21 says what R96 leaves out);
fewer than 8 preamble bits in IDLE, fewer than 32 payload bits in READING and exactly 32 in DONE, with no bit of the
shift register above those received (`43_decoder.md` R97). -/
structure DecoderInv (c : Decoder) : Prop where
  legalStatus : c.status ≠ .unused5 ∧ c.status ≠ .unused6 ∧ c.status ≠ .unused7
  fewTransitions : c.transitionsThisCell.toNat ≤ 2
  openCell : c.status ≠ .init → c.transitionsThisCell.toNat ≤ 1
  midCell : c.status ≠ .init → c.transitionsThisCell = 1#2 → 2 ≤ c.ticksSinceTransition.toNat
  idle : c.status = .idle → c.bitsReceived.toNat < 8 ∧ c.shiftRegister = 0#32
  sync : c.status = .sync → c.shiftRegister = 0#32
  reading : c.status = .reading →
    c.bitsReceived.toNat < 32 ∧ c.shiftRegister.toNat < 2 ^ c.bitsReceived.toNat
  done : c.status = .done →
    c.bitsReceived = 32#8 ∧ c.ticksSinceTransition = 0#8 ∧ c.transitionsThisCell = 0#2

/-- The machine's invariant: the legal values of the registers (`00_scope.md` R5, `10_state.md` R13 to R15, R17),
what a busy sequencer implies (`41_transmitter.md` R70), and the decoder's invariant. -/
structure Inv (s : State) : Prop where
  clock : 1 ≤ s.coreClockHz.val
  txConfigured : s.txCfg.cfgValid = true →
    2 ≤ s.txCfg.cyclesPerBit.toNat ∧ s.txCfg.halfCount.toNat = s.txCfg.cyclesPerBit.toNat / 2
  txUnconfigured : s.txCfg.cfgValid = false →
    s.txCfg = TxConfig.reset ∧ s.txRun.busy = false
  txDriven : s.txRun.oe = s.txCfg.cfgValid
  txBusy : s.txRun.busy = true →
    s.txRun.upc.toNat < (txProgram s.txRun.word).length ∧ s.readHeld = false
  txIdle : s.txRun.busy = false →
    s.txRun.upc = 0#9 ∨ s.txRun.upc.toNat = (txProgram s.txRun.word).length
  rxDivider : s.rxCfg.divider.toNat ∈ dividers
  rxReload : 1 ≤ s.rxCfg.reload.toNat
  rxEnabled : s.rxCfg.tmrEn = s.rxCfg.cfgValid
  rxUnconfigured : s.rxCfg.cfgValid = false → s.rxCfg = RxConfig.reset ∧ s.dec = Decoder.reset
  decoder : DecoderInv s.dec

/-- A run is over: the host has no further command and is not held, no frame is being emitted, and no refusal mark
is set (`70_reset_and_hazards.md` R142). -/
abbrev RunOver (s : State) : Prop :=
  s.hostProg = [] ∧ s.hostHold = false ∧ s.txRun.busy = false ∧ s.mark = none

/-- A state in which the schedule decides the next step: no refusal mark, and no held RXREAD whose word is there. -/
abbrev ScheduleDecides (s : State) : Prop :=
  s.mark = none ∧ ¬(s.readHeld = true ∧ s.dec.status = .done)

end Sys2Proof.Machine
end

