-- ==== Sys2Proof/Certificates/Slice0/Obligations.lean ====
section
/-! DEFINITION. The statements for the provers, from the numbered rules of spec/. "The model's choice" in a docstring
names the log entry of a clause that no rule of the spec states; "marked derived" is said where the spec marks the rule
as its own inference. -/

open Sys2Proof Sys2Proof.Machine

/-! ## Encoding -/

/-- `30_encoding.md` R42 to R45: an operation's own encoding decodes to it, and exactly the signals that carry its
code and the operands it lists decode to it, whatever stands on the operand ports it does not list. -/
def Obligations.DecodeAgreesWithEncode : Prop :=
  ∀ i : Instr, decode (encode i) = .instr i ∧ (encode i).agent = i.issuer ∧
    ∀ sig : Signal, decode sig = .instr i ↔
      match i with
      | .txbegin pin rate => ∃ data, sig = .cmd ⟨0x00#8, pin, rate, data⟩
      | .txsend data => ∃ pin rate, sig = .cmd ⟨0x01#8, pin, rate, data⟩
      | .rxbegin pin rate => ∃ data, sig = .cmd ⟨0x02#8, pin, rate, data⟩
      | .rxhas => ∃ pin rate data, sig = .cmd ⟨0x03#8, pin, rate, data⟩
      | .rxread => ∃ pin rate data, sig = .cmd ⟨0x04#8, pin, rate, data⟩
      | .tick level => sig = .event 0x05#8 level
      | .tgl => sig = .micro 0b00#2
      | .waith => sig = .micro 0b01#2
      | .waitf => sig = .micro 0b10#2
      | .drvlo => sig = .micro 0b11#2

/-- `30_encoding.md` R46 with `60_exceptions.md` R110: a reserved byte on the `cmd` port sets the mark with reason
`reserved_cmd` and changes no register. That the host's turn leaves the schedule and the byte leaves the host's list of
commands is the model's choice (logs 1 and 16). -/
def Obligations.ReservedCommandIsRefused : Prop :=
  ∀ (p : CmdPort) (s : State) (rest : List CmdPort) (ts : List Turn),
    (p.cmd.toNat % 8 = 6 ∨ p.cmd.toNat % 8 = 7 ∨ p.cmd.toNat / 8 ≠ 0 ∨ p.cmd.toNat % 8 = 5) →
    ScheduleDecides s → s.hostHold = false → s.turns = .host :: ts → s.hostProg = p :: rest →
    step s = .next { s with turns := ts, hostProg := rest, mark := some .reservedCmd }

/-- `30_encoding.md` R43 and R44: words written out from the encoding tables decode to their operations. -/
def Obligations.SampleWordsDecode : Prop :=
  decode (.cmd ⟨0b00000000#8, 3#8, 1000#32, 77#32⟩) = .instr (.txbegin 3#8 1000#32) ∧
  decode (.cmd ⟨0b00000001#8, 9#8, 9#32, 0x12345678#32⟩) = .instr (.txsend 0x12345678#32) ∧
  decode (.cmd ⟨0b00000100#8, 9#8, 9#32, 9#32⟩) = .instr .rxread ∧
  decode (.event 0b00000101#8 true) = .instr (.tick true) ∧
  decode (.micro 0b10#2) = .instr .waitf

/-! ## The threshold calculator -/

/-- `40_timing_constants.md` R51 to R53 and R55: the hard-wired thresholds are 175%, 75% and 25% of 8 ticks in every
state, which are 14, 6 and 2, and the lower bound of a two-transition cell is twice the last. -/
def Obligations.ThresholdsAreFractionsOfOversampling : Prop :=
  ∀ s : State, s.maxL.toNat = 8 * 175 / 100 ∧ s.maxL = 14#8 ∧ s.maxS.toNat = 8 * 75 / 100 ∧ s.maxS = 6#8 ∧
    s.minS.toNat = 8 * 25 / 100 ∧ s.minS = 2#8 ∧ twiceMinS.toNat = 2 * s.minS.toNat

/-- `40_timing_constants.md` R61 and R62: the search answers the first divider whose floored reload is strictly below
65535, and clamps to (1024, 65535) when there is none. -/
def Obligations.SelectTickFindsSmallestDivider : Prop :=
  ∀ clock rate : Nat, 1 ≤ rate →
    (∀ d ∈ [1, 8, 64, 256, 1024], clock / d / (rate * 8) < 65535 →
      (∀ e ∈ [1, 8, 64, 256, 1024], e < d → ¬ clock / e / (rate * 8) < 65535) →
      selectTick clock 65535 rate = (d, clock / d / (rate * 8))) ∧
    ((∀ e ∈ [1, 8, 64, 256, 1024], ¬ clock / e / (rate * 8) < 65535) →
      selectTick clock 65535 rate = (1024, 65535))

/-- `40_timing_constants.md` R65, with the quotients multiplied out: unclamped, the receiver gets at least 8 and
fewer than `8 × (reload + 1) / reload` ticks per bit, and exactly 8 when `8 × divider × rate` divides the clock; with
the clamp it gets at least 8. The spec marks the rule derived; that the clamped case follows R65 and not the word
"slower" of `70_reset_and_hazards.md` R136 and of `90_conflicts.md` C4 is the model's reading (log 29). -/
def Obligations.TickRateNeverBelowEightPerBit : Prop :=
  ∀ clock rate d r : Nat, 1 ≤ rate → selectTick clock 65535 rate = (d, r) →
    8 * (r * d) * rate ≤ clock ∧
    ((d, r) ≠ (1024, 65535) → clock < 8 * ((r + 1) * d) * rate) ∧
    ((d, r) ≠ (1024, 65535) → 8 * d * rate ∣ clock → clock = 8 * (r * d) * rate)

/-! ## The transmitter -/

/-- `41_transmitter.md` R68, `40_timing_constants.md` R57 to R59: TXBEGIN refuses rate 0, then a rate whose count is
below 2, and otherwise configures the transmitter, drives the line at a drawn level (nothing is said of which) and
changes nothing else; the count of draws is the model's own field (log 9). -/
def Obligations.TxbeginConfiguresTransmitter : Prop :=
  ∀ (pin : PinId) (rate : Rate) (s : State),
    (rate.toNat = 0 → exec (.txbegin pin rate) s = .next { s with mark := some .rateZero }) ∧
    (1 ≤ rate.toNat → s.coreClockHz.val / 4 / rate.toNat < 2 →
      exec (.txbegin pin rate) s = .next { s with mark := some .rateTooHighTx }) ∧
    (1 ≤ rate.toNat → 2 ≤ s.coreClockHz.val / 4 / rate.toNat →
      ∃ t, exec (.txbegin pin rate) s = .next t ∧
        t.txCfg.cfgValid = true ∧ t.txCfg.pin = pin ∧
        t.txCfg.cyclesPerBit.toNat = s.coreClockHz.val / 4 / rate.toNat ∧
        t.txCfg.halfCount.toNat = s.coreClockHz.val / 4 / rate.toNat / 2 ∧
        t.txRun = { s.txRun with oe := true, level := t.txRun.level } ∧
        t = { s with txCfg := t.txCfg, txRun := t.txRun, draws := t.draws })

/-- `41_transmitter.md` R69: TXSEND before a TXBEGIN is refused; otherwise it latches the payload, starts the
sequencer at index 0 and time 0, and holds the host, which issues nothing while `tx_busy` is 1. That a held host's turn
leaves the schedule and changes nothing else is the model's choice (logs 1 and 2). Nothing is said of the line trace. -/
def Obligations.TxsendStartsFrame : Prop :=
  ∀ (data : Payload) (s : State),
    (s.txCfg.cfgValid = false → exec (.txsend data) s = .next { s with mark := some .sendBeforeBegin }) ∧
    (s.txCfg.cfgValid = true →
      ∃ t, exec (.txsend data) s = .next t ∧
        t = { s with
          txRun := { s.txRun with word := data, upc := 0#9, time := 0, busy := true }, txTrace := t.txTrace } ∧
        t.hostHold = true) ∧
    (∀ ts, ScheduleDecides s → s.txRun.busy = true → s.turns = .host :: ts → step s = .next { s with turns := ts })

/-- `41_transmitter.md` R75 (D12): TGL complements the line level in 0 core cycles and changes nothing else. Nothing is
said of the line trace. -/
def Obligations.TglTogglesLine : Prop :=
  ∀ s : State, ∃ t, exec .tgl s = .next t ∧
    t = { s with txRun := { s.txRun with level := !s.txRun.level }, txTrace := t.txTrace }

/-- `41_transmitter.md` R76 (D12): WAITH moves `tx_time` by `halfCount × 4` core cycles and changes nothing else. -/
def Obligations.WaithWaitsHalfPeriod : Prop :=
  ∀ s : State, exec .waith s = .next { s with
    txRun := { s.txRun with time := s.txRun.time + s.txCfg.halfCount.toNat * 4 } }

/-- `41_transmitter.md` R77: WAITF moves `tx_time` by `cyclesPerBit × 4` core cycles and changes nothing else. -/
def Obligations.WaitfWaitsFullPeriod : Prop :=
  ∀ s : State, exec .waitf s = .next { s with
    txRun := { s.txRun with time := s.txRun.time + s.txCfg.cyclesPerBit.toNat * 4 } }

/-- `41_transmitter.md` R78 (D12): DRVLO drives the line low in 0 core cycles, whatever its level was, and changes
nothing else. Nothing is said of the line trace. -/
def Obligations.DrvloDrivesLineLow : Prop :=
  ∀ s : State, ∃ t, exec .drvlo s = .next t ∧
    t = { s with txRun := { s.txRun with level := false }, txTrace := t.txTrace }

/-- `41_transmitter.md` R70: in a busy sequencer's turn the step performs the micro-operation at `tx_upc`, adds 1 to
`tx_upc`, and clears `tx_busy` when `tx_upc` reaches the program's length; an idle sequencer has no step. The schedule,
and that an idle sequencer's turn passes, are the model's choices (logs 1 and 2). -/
def Obligations.SequencerStepsThroughProgram : Prop :=
  ∀ (s : State) (ts : List Turn), ScheduleDecides s → s.turns = .txSequencer :: ts →
    (s.txRun.busy = false → step s = .next { s with turns := ts }) ∧
    (∀ u, s.txRun.busy = true → (txProgram s.txRun.word)[s.txRun.upc.toNat]? = some u →
      ∃ m t, exec (decodeMicro u) { s with turns := ts } = .next m ∧ step s = .next t ∧
        t.txRun.upc.toNat = s.txRun.upc.toNat + 1 ∧
        t.txRun.busy = decide (s.txRun.upc.toNat + 1 ≠ (txProgram s.txRun.word).length) ∧
        t = { m with txRun := { m.txRun with upc := t.txRun.upc, busy := t.txRun.busy } })

/-- `41_transmitter.md` R79: the length of a frame's program, its toggles, and its delay iterations for an even and
for an odd count c. The spec marks the rule derived. -/
def Obligations.FrameCountsFollowPopcount : Prop :=
  ∀ (d : Payload) (c : Nat), 2 ≤ c →
    (txProgram d).length = 197 + 2 * popcount d ∧
    (txProgram d).countP (fun u => decide (u = codeTgl)) = 96 + popcount d ∧
    ((txProgram d).map (fun u => if u = codeWaith then c / 2 else if u = codeWaitf then c else 0)).sum =
      if c % 2 = 0 then 69 * c else 69 * c - 31 - popcount d

/-- `41_transmitter.md` R79, R80, R82 and `60_exceptions.md` R113: whatever ticks and whatever host turns fall
between the sequencer's turns, a frame ends after exactly the program's length of sequencer turns, with the line low,
after `K` times the delay iterations of R79, and the host has issued nothing. The spec marks R79 and R80 derived; that
ticks do not stretch the delays is its decision D34 (log 19). The schedule, and that turns of a held host and of a tick
source that is off pass, are the model's choices (logs 1 and 2). -/
def Obligations.FrameCompletesUnderInterleavedTurns : Prop :=
  ∀ (d : Payload) (s : State) (ts rest : List Turn),
    s.mark = none → s.readHeld = false →
    s.txCfg.halfCount.toNat = s.txCfg.cyclesPerBit.toNat / 2 → 2 ≤ s.txCfg.cyclesPerBit.toNat →
    s.txRun.busy = true → s.txRun.word = d → s.txRun.upc = 0#9 → s.txRun.time = 0 →
    Turn.rst ∉ ts → ts.count .txSequencer + 1 = (txProgram d).length →
    s.turns = ts ++ .txSequencer :: rest →
    ∃ t : State, runSteps (ts.length + 1) s = .next t ∧
      t.txRun = { s.txRun with
        busy := false, upc := BitVec.ofNat 9 (197 + 2 * popcount d), level := false,
        time := if s.txCfg.cyclesPerBit.toNat % 2 = 0 then 4 * (69 * s.txCfg.cyclesPerBit.toNat)
          else 4 * (69 * s.txCfg.cyclesPerBit.toNat - 31 - popcount d) } ∧
      t.hostHold = false ∧ t.txCfg = s.txCfg ∧ t.rxCfg = s.rxCfg ∧ t.mark = none ∧ t.results = s.results ∧
      t.hostProg = s.hostProg ∧ t.turns = rest ∧ t.draws = s.draws

/-- `41_transmitter.md` R81: with an even count c, symbol s of a frame begins with a toggle at `s × c × K`, a "1"
toggles again `(c/2) × K` later, DRVLO acts at `65 × c × K`, and the frame ends at `69 × c × K`. That the events
stand in the field txTrace is the model's choice (log 14), so is the schedule (log 1), exact delays are the spec's
default (log 19), and the spec marks the rule derived. -/
def Obligations.EvenFrameHasItsTimedTrace : Prop :=
  ∀ (d : Payload) (s : State) (rest : List Turn),
    s.mark = none → s.readHeld = false →
    s.txCfg.cyclesPerBit.toNat % 2 = 0 → s.txCfg.halfCount.toNat = s.txCfg.cyclesPerBit.toNat / 2 →
    s.txRun.busy = true → s.txRun.word = d → s.txRun.upc = 0#9 → s.txRun.time = 0 →
    s.turns = List.replicate (txProgram d).length .txSequencer ++ rest →
    ∃ t : State, runSteps (txProgram d).length s = .next t ∧
      t.txTrace = s.txTrace ++ frameEvents s.txCfg.cyclesPerBit.toNat d s.txRun.level ∧
      t.txRun.time = 69 * s.txCfg.cyclesPerBit.toNat * 4

/-- `41_transmitter.md` R80, first part: just before DRVLO the line level is the level the frame started from,
complemented when the payload has an odd number of 1 bits. The spec marks the rule derived; the schedule is the model's
choice (log 1). -/
def Obligations.LineLevelBeforeGuardFollowsParity : Prop :=
  ∀ (d : Payload) (s : State) (rest : List Turn),
    s.mark = none → s.readHeld = false → s.txRun.busy = true → s.txRun.word = d → s.txRun.upc = 0#9 →
    s.turns = List.replicate (192 + 2 * popcount d) .txSequencer ++ rest →
    ∃ t : State, runSteps (192 + 2 * popcount d) s = .next t ∧
      t.microAt = some codeDrvlo ∧
      t.txRun.level = xor s.txRun.level (decide (popcount d % 2 = 1))

/-- `10_state.md` R13 to R15 and R25: which operations write which registers by their own effect. R14 lists the
micro-operations as writers of `tx_upc` and the last one as the writer that clears `tx_busy`: those two writes are the
sequencer's part of the step, which `exec` leaves to `step` (the model's choice, log 28), and stand in
SequencerStepsThroughProgram. -/
def Obligations.RegistersHaveTheirWriters : Prop :=
  ∀ (i : Instr) (s t : State), exec i s = .next t →
    (t.txCfg ≠ s.txCfg → ∃ pin rate, i = .txbegin pin rate) ∧
    (t.txRun.word ≠ s.txRun.word ∨ t.txRun.busy ≠ s.txRun.busy ∨ t.txRun.upc ≠ s.txRun.upc →
      ∃ data, i = .txsend data) ∧
    (t.txRun.level ≠ s.txRun.level → (∃ pin rate, i = .txbegin pin rate) ∨ i = .tgl ∨ i = .drvlo) ∧
    (t.txRun.oe ≠ s.txRun.oe → ∃ pin rate, i = .txbegin pin rate) ∧
    (t.txRun.time ≠ s.txRun.time → (∃ data, i = .txsend data) ∨ i = .waith ∨ i = .waitf) ∧
    (t.rxCfg ≠ s.rxCfg → ∃ pin rate, i = .rxbegin pin rate) ∧
    (t.dec ≠ s.dec → (∃ pin rate, i = .rxbegin pin rate) ∨ (∃ level, i = .tick level) ∨ i = .rxread) ∧
    (i = .rxread → t.dec = { s.dec with status := t.dec.status }) ∧
    (t.results ≠ s.results → i = .rxhas ∨ i = .rxread) ∧
    t.coreClockHz = s.coreClockHz ∧ t.hostProg = s.hostProg ∧ t.turns = s.turns

/-! ## Receiver configuration -/

/-- `42_receiver_config.md` R84 and `40_timing_constants.md` R63: RXBEGIN refuses rate 0, then a rate whose reload is
0, and otherwise programs the tick source with the search's divider and reload, puts every decoder field at its start
value, and changes nothing else. -/
def Obligations.RxbeginStartsReceiver : Prop :=
  ∀ (pin : PinId) (rate : Rate) (s : State),
    (rate.toNat = 0 → exec (.rxbegin pin rate) s = .next { s with mark := some .rateZero }) ∧
    (1 ≤ rate.toNat → (selectTick s.coreClockHz.val 65535 rate.toNat).2 = 0 →
      exec (.rxbegin pin rate) s = .next { s with mark := some .rateTooHighRx }) ∧
    (1 ≤ rate.toNat → 1 ≤ (selectTick s.coreClockHz.val 65535 rate.toNat).2 →
      ∃ t, exec (.rxbegin pin rate) s = .next t ∧
        t.rxCfg.cfgValid = true ∧ t.rxCfg.pin = pin ∧ t.rxCfg.tmrEn = true ∧
        t.rxCfg.divider.toNat = (selectTick s.coreClockHz.val 65535 rate.toNat).1 ∧
        t.rxCfg.reload.toNat = (selectTick s.coreClockHz.val 65535 rate.toNat).2 ∧
        t.dec = ⟨.init, 0#32, 0#8, 0#8, 0#2, false⟩ ∧ t.dataReady = false ∧
        t = { s with rxCfg := t.rxCfg, dec := t.dec })

/-- `40_timing_constants.md` R63: RXBEGIN refuses rate 0 with `rate_zero`, and refuses a rate of at least 1 with
`rate_too_high_rx` exactly when the search's reload is 0, which is when `rate × 8` is above the clock. -/
def Obligations.RxbeginRefusedExactlyAboveClock : Prop :=
  ∀ (pin : PinId) (rate : Rate) (s : State), s.mark = none →
    (rate.toNat = 0 → exec (.rxbegin pin rate) s = .next { s with mark := some .rateZero }) ∧
    (1 ≤ rate.toNat →
      (exec (.rxbegin pin rate) s = .next { s with mark := some .rateTooHighRx } ↔
        (selectTick s.coreClockHz.val 65535 rate.toNat).2 = 0) ∧
      ((selectTick s.coreClockHz.val 65535 rate.toNat).2 = 0 ↔ s.coreClockHz.val < rate.toNat * 8))

/-! ## The decoder, one tick -/

/-- `43_decoder.md` R86: TICK always has a meaning, writes the decoder's working state only, and makes `data_ready`
1 exactly when it takes `status` from another state to DONE. -/
def Obligations.TickWritesDecoderOnly : Prop :=
  ∀ (level : Level) (s : State), ∃ t, exec (.tick level) s = .next t ∧ t = { s with dec := t.dec } ∧
    (s.dataReady = false → (t.dataReady = true ↔ s.dec.status = .reading ∧ t.dec.status = .done)) ∧
    (s.dataReady = true → t = s)

/-- `43_decoder.md` R87: in DONE a TICK changes nothing at all. -/
def Obligations.TickDroppedWhenDone : Prop :=
  ∀ (level : Level) (s : State), s.dec.status = .done → exec (.tick level) s = .next s

/-- `43_decoder.md` R88 (D17): the INIT tick clears the working state, takes the level as the baseline and goes to IDLE. -/
def Obligations.InitTickTakesBaseline : Prop :=
  ∀ (level : Level) (s : State), s.dec.status = .init →
    exec (.tick level) s = .next { s with dec := ⟨.idle, 0#32, 0#8, 0#8, 0#2, level⟩ }

/-- `43_decoder.md` R89, a tick without a transition: the tick counter goes up, saturating at 255, and nothing else
changes. -/
def Obligations.SilentTickOnlyCounts : Prop :=
  ∀ s : State, s.dec.status ≠ .done → s.dec.status ≠ .init →
    exec (.tick s.dec.previousLevel) s = .next { s with dec := { s.dec with
      ticksSinceTransition := BitVec.ofNat 8 (min (s.dec.ticksSinceTransition.toNat + 1) 255) } }

/-- `43_decoder.md` R90: a first transition at tick 1 or at tick 15 or later discards the frame. -/
def Obligations.FirstTransitionOutOfWindowDiscards : Prop :=
  ∀ (level : Level) (s : State) (t : Nat), s.dec.status ≠ .done → s.dec.status ≠ .init →
    level ≠ s.dec.previousLevel → s.dec.transitionsThisCell = 0#2 →
    t = min (s.dec.ticksSinceTransition.toNat + 1) 255 → (t = 1 ∨ 15 ≤ t) →
    exec (.tick level) s = .next { s with dec := { s.dec with
      status := .init, previousLevel := level, ticksSinceTransition := BitVec.ofNat 8 t,
      transitionsThisCell := 1#2 } }

/-- `43_decoder.md` R91: a first transition at tick 7 to 14 ends a "0" symbol: the start marker in SYNC, a payload bit
in READING, and invalid in any other status. -/
def Obligations.LongFirstTransitionIsZeroSymbol : Prop :=
  ∀ (level : Level) (s : State) (t : Nat), s.dec.status ≠ .done → s.dec.status ≠ .init →
    level ≠ s.dec.previousLevel → s.dec.transitionsThisCell = 0#2 →
    t = min (s.dec.ticksSinceTransition.toNat + 1) 255 → 7 ≤ t → t ≤ 14 →
    exec (.tick level) s = .next { s with dec :=
      if s.dec.status = .sync then
        { s.dec with status := .reading, bitsReceived := 0#8, ticksSinceTransition := 0#8,
                     transitionsThisCell := 0#2, previousLevel := level }
      else if s.dec.status = .reading then
        { status := if 32 ≤ (s.dec.bitsReceived.toNat + 1) % 256 then .done else .reading,
          shiftRegister := BitVec.ofNat 32 (s.dec.shiftRegister.toNat * 2),
          bitsReceived := s.dec.bitsReceived + 1#8, ticksSinceTransition := 0#8,
          transitionsThisCell := 0#2, previousLevel := level }
      else
        { s.dec with status := .init, bitsReceived := s.dec.bitsReceived + 1#8, ticksSinceTransition := 0#8,
                     transitionsThisCell := 0#2, previousLevel := level } }

/-- `43_decoder.md` R92: a first transition at tick 2 to 6 keeps the tick counter running and waits for the second. -/
def Obligations.ShortFirstTransitionWaits : Prop :=
  ∀ (level : Level) (s : State) (t : Nat), s.dec.status ≠ .done → s.dec.status ≠ .init →
    level ≠ s.dec.previousLevel → s.dec.transitionsThisCell = 0#2 →
    t = min (s.dec.ticksSinceTransition.toNat + 1) 255 → 2 ≤ t → t ≤ 6 →
    exec (.tick level) s = .next { s with dec := { s.dec with
      previousLevel := level, ticksSinceTransition := BitVec.ofNat 8 t, transitionsThisCell := 1#2 } }

/-- `43_decoder.md` R93: a second transition at tick 3 or earlier, or at tick 15 or later, discards the frame. -/
def Obligations.SecondTransitionOutOfWindowDiscards : Prop :=
  ∀ (level : Level) (s : State) (t : Nat), s.dec.status ≠ .done → s.dec.status ≠ .init →
    level ≠ s.dec.previousLevel → s.dec.transitionsThisCell = 1#2 →
    t = min (s.dec.ticksSinceTransition.toNat + 1) 255 → (t ≤ 3 ∨ 15 ≤ t) →
    exec (.tick level) s = .next { s with dec := { s.dec with
      status := .init, previousLevel := level, ticksSinceTransition := BitVec.ofNat 8 t,
      transitionsThisCell := 2#2 } }

/-- `43_decoder.md` R94: a second transition at tick 4 to 14 ends a "1" symbol: a preamble bit in IDLE and SYNC, a
payload bit in READING, and invalid under an unused status code. -/
def Obligations.SecondTransitionIsOneSymbol : Prop :=
  ∀ (level : Level) (s : State) (t : Nat), s.dec.status ≠ .done → s.dec.status ≠ .init →
    level ≠ s.dec.previousLevel → s.dec.transitionsThisCell = 1#2 →
    t = min (s.dec.ticksSinceTransition.toNat + 1) 255 → 4 ≤ t → t ≤ 14 →
    exec (.tick level) s = .next { s with dec := { s.dec with
      status :=
        if s.dec.status = .idle then (if 8 ≤ (s.dec.bitsReceived.toNat + 1) % 256 then .sync else .idle)
        else if s.dec.status = .sync then .sync
        else if s.dec.status = .reading then
          (if 32 ≤ (s.dec.bitsReceived.toNat + 1) % 256 then .done else .reading)
        else .init,
      shiftRegister :=
        if s.dec.status = .reading then BitVec.ofNat 32 (s.dec.shiftRegister.toNat * 2 + 1)
        else s.dec.shiftRegister,
      bitsReceived := s.dec.bitsReceived + 1#8, ticksSinceTransition := 0#8, transitionsThisCell := 0#2,
      previousLevel := level } }

/-- `43_decoder.md` R95: a third transition in one cell discards the frame. -/
def Obligations.ThirdTransitionDiscards : Prop :=
  ∀ (level : Level) (s : State), s.dec.status ≠ .done → s.dec.status ≠ .init →
    level ≠ s.dec.previousLevel → 2 ≤ s.dec.transitionsThisCell.toNat →
    exec (.tick level) s = .next { s with dec := { s.dec with
      status := .init, previousLevel := level, transitionsThisCell := 3#2,
      ticksSinceTransition := BitVec.ofNat 8 (min (s.dec.ticksSinceTransition.toNat + 1) 255) } }

/-! ## The decoder, many ticks -/

/-- `43_decoder.md` R99, for a status that samples the line (the INIT tick of R88 and the dropped ticks of R87 apart):
n silent ticks move the tick counter only, up to 255; a decoder that has been silent for 14 ticks or more discards its
frame at the next transition. The spec marks the rule derived; that INIT and DONE are left out is the model's reading
(log 30). -/
def Obligations.SilentLineOnlyCounts : Prop :=
  ∀ (n : Nat) (c : Decoder), c.status ≠ .done → c.status ≠ .init →
    decoderFeed (List.replicate n c.previousLevel) c =
      { c with ticksSinceTransition := BitVec.ofNat 8 (min (c.ticksSinceTransition.toNat + n) 255) } ∧
    (14 ≤ n →
      (decoderFeed (List.replicate n c.previousLevel ++ [!c.previousLevel]) c).status = .init)

/-- `43_decoder.md` R88, `42_receiver_config.md` R84 corner case 3: what a decoder in INIT held before has no effect
on anything after its INIT tick. -/
def Obligations.InitTickForgetsHistory : Prop :=
  ∀ (a b : Decoder) (l : Level) (ls : List Level), a.status = .init → b.status = .init →
    decoderFeed (l :: ls) a = decoderFeed (l :: ls) b

/-- `92_eei_decisions.md` D10, `93_implementation_defined.md` section 2: the code is independent of polarity. A decoder
with the complemented line does the same in every status, complemented level apart. -/
def Obligations.DecoderIsPolarityFree : Prop :=
  ∀ (ls : List Level) (c : Decoder),
    decoderFeed (ls.map (fun l => !l)) { c with previousLevel := !c.previousLevel } =
      { decoderFeed ls c with previousLevel := !(decoderFeed ls c).previousLevel }

/-- `43_decoder.md` R101: from every state A and for every payload and start level, the ideal frame takes the decoder
through IDLE, to SYNC at frame tick 65, READING at 257 and DONE at 513 with the payload in the shift register; later
ticks change nothing; then RXHAS answers 1 and RXREAD returns the payload. The spec marks the rule derived; that the
results are kept as a list is the model's choice (log 13). -/
def Obligations.IdealFrameRoundTrip : Prop :=
  ∀ (d : Payload) (l0 : Level) (s : State), Acquirable s.dec l0 →
    (∀ k, 2 ≤ k → k ≤ 64 → (decoderFeed ((idealSamples d l0).take k) s.dec).status = .idle) ∧
    (∀ k, 65 ≤ k → k ≤ 256 → (decoderFeed ((idealSamples d l0).take k) s.dec).status = .sync) ∧
    (∀ k, 257 ≤ k → k ≤ 512 → (decoderFeed ((idealSamples d l0).take k) s.dec).status = .reading) ∧
    ∃ c, decoderFeed ((idealSamples d l0).take 513) s.dec = c ∧ c.status = .done ∧ c.shiftRegister = d ∧
      (∀ ls, decoderFeed ((idealSamples d l0).take 513 ++ ls) s.dec = c) ∧
      exec .rxhas { s with dec := c } = .next { s with dec := c, results := s.results ++ [.flag true] } ∧
      exec .rxread { s with dec := c } = .next { s with
        dec := { c with status := .init }, readHeld := false, results := s.results ++ [.data d] }

/-- `43_decoder.md` R101 on the machine's own steps: with the tick source running, a schedule of the ideal frame's
552 ticks leaves the payload held, and nothing but the decoder and the schedule has changed. The spec marks the rule
derived; the schedule is the model's choice (log 1). -/
def Obligations.MachineReceivesIdealFrame : Prop :=
  ∀ (d : Payload) (l0 : Level) (s : State) (rest : List Turn),
    s.mark = none → s.readHeld = false → s.rxCfg.tmrEn = true → Acquirable s.dec l0 →
    s.turns = (idealSamples d l0).map .tickSource ++ rest →
    ∃ t : State, runSteps 552 s = .next t ∧ t = { s with dec := t.dec, turns := rest } ∧
      t.dec.status = .done ∧ t.dec.shiftRegister = d ∧ t.dataReady = true

/-- `70_reset_and_hazards.md` R135 with `43_decoder.md` R91, R94 and R97: after the start marker, 32 cells of any
lengths inside the decoder's windows give the word of their bits, the first at the top. The spec marks R97 and R135
derived. -/
def Obligations.PayloadDecodesInsideRateWindow : Prop :=
  ∀ (d : Payload) (ks : List Cell) (c : Decoder),
    ks.map Cell.bit = payloadBits d → (∀ k ∈ ks, k.inWindow) →
    c.status = .reading → c.bitsReceived = 0#8 → c.ticksSinceTransition = 0#8 → c.transitionsThisCell = 0#2 →
    (decoderFeed (cellsSamples ks c.previousLevel) c).status = .done ∧
    (decoderFeed (cellsSamples ks c.previousLevel) c).shiftRegister = d

/-- `43_decoder.md` R103: from a state A, n "1" symbols and a "0" reach SYNC exactly when n is at least 8; then the
transition that ends the "0" starts READING, and with n at most 7 it sets INIT. The spec marks the rule derived. -/
def Obligations.PreambleOfEightLocks : Prop :=
  ∀ (n : Nat) (l0 : Level) (c : Decoder), Acquirable c l0 →
    (8 ≤ n →
      (decoderFeed (lineSamples (List.replicate n true ++ [false]) l0) c).status = .sync ∧
      (decoderFeed (lineSamples (List.replicate n true ++ [false]) l0 ++ [l0]) c).status = .reading) ∧
    (n ≤ 7 →
      (∀ k, 1 ≤ k →
        (decoderFeed ((lineSamples (List.replicate n true ++ [false]) l0).take k) c).status ≠ .sync) ∧
      (decoderFeed (lineSamples (List.replicate n true ++ [false]) l0 ++ [l0]) c).status = .init)

/-- `43_decoder.md` R102, its first part: from 1 to 5 ticks after an INIT tick the decoder aligns on the preamble's
mid-cell toggles, reaches SYNC at frame tick 61 and is still in SYNC at frame tick 257. That no preamble bit has been
counted before is the model's reading of the rule's premise (log 22), and the spec marks the rule derived. -/
def Obligations.MisalignedAcquisitionSyncsEarly : Prop :=
  ∀ (d : Payload) (l0 : Level) (c : Decoder),
    c.status = .idle → c.previousLevel = l0 → c.transitionsThisCell = 0#2 → c.bitsReceived = 0#8 →
    1 ≤ c.ticksSinceTransition.toNat → c.ticksSinceTransition.toNat ≤ 5 →
    (∀ k, k ≤ 60 → (decoderFeed ((idealSamples d l0).take k) c).status = .idle) ∧
    (∀ k, 61 ≤ k → k ≤ 257 → (decoderFeed ((idealSamples d l0).take k) c).status = .sync)

/-- `70_reset_and_hazards.md` R133, rows 1 and 3 up to the end of the frame: an RXREAD after frame tick 513 to 545,
551 or 552 returns the first frame's word, and the frame sent directly after it is received as well. The spec marks the
rule derived; that the results are kept as a list is the model's choice (log 13). -/
def Obligations.ReadWindowKeepsNextFrame : Prop :=
  ∀ (d e : Payload) (l0 : Level) (s : State) (k : Nat), Acquirable s.dec l0 →
    ((513 ≤ k ∧ k ≤ 545) ∨ k = 551 ∨ k = 552) →
    ∃ t, exec .rxread { s with dec := decoderFeed ((idealSamples d l0).take k) s.dec } = .next t ∧
      t.results = s.results ++ [.data d] ∧
      (decoderFeed ((idealSamples d l0).drop k ++ idealSamples e false) t.dec).status = .done ∧
      (decoderFeed ((idealSamples d l0).drop k ++ idealSamples e false) t.dec).shiftRegister = e

/-- `70_reset_and_hazards.md` R134, its first case: an INIT tick at frame tick j, with j from 1 to 3, or from 8 to 187
with `j mod 8` in 0 to 3, still receives the frame. The spec marks the rule derived; log 30 says why its third case is
not stated. -/
def Obligations.AcquisitionInsidePreamble : Prop :=
  ∀ (d : Payload) (l0 : Level) (c : Decoder) (j : Nat), c.status = .init →
    ((1 ≤ j ∧ j ≤ 3) ∨ (8 ≤ j ∧ j ≤ 187 ∧ j % 8 ≤ 3)) →
    (decoderFeed ((idealSamples d l0).drop (j - 1)) c).status = .done ∧
    (decoderFeed ((idealSamples d l0).drop (j - 1)) c).shiftRegister = d

/-- `43_decoder.md` R100: where a bit lasts exactly 8 tick periods and no toggle falls on a tick instant, the level of
the timed line at frame tick j is the ideal channel's sample j. The spec marks the rule derived; the timed reading is a
function beside the step (log 11), and its delays are exact (log 19). -/
def Obligations.TimedLineGivesIdealSamples : Prop :=
  ∀ (d : Payload) (l0 : Level) (c p j : Nat) (phase : ℚ),
    c % 2 = 0 → c * 4 = 8 * p → 0 < phase → phase < (p : ℚ) → 1 ≤ j →
    levelAt (frameEvents c d l0) l0 (tickInstant 0 phase p j) = idealLevel d l0 j

/-! ## The accessors -/

/-- `44_accessors.md` R104: RXHAS answers on `res_flag` whether `status` is DONE, never holds, writes no register, and
answers the same again with nothing between. That `res_flag` and `res_data` are the latest entries of a list of results,
and so that `res_data` stays, is the model's choice (log 13). -/
def Obligations.RxhasAnswersDataReady : Prop :=
  ∀ s : State, ∃ t u, exec .rxhas s = .next t ∧ t.resFlag = some (decide (s.dec.status = .done)) ∧
    t.resData = s.resData ∧ t = { s with results := t.results } ∧
    exec .rxhas t = .next u ∧ u.resFlag = t.resFlag

/-- `44_accessors.md` R105, with a word held: RXREAD returns it on `res_data` and sets `status` to INIT in one step,
writes no other register, and does not hold the host. That `res_data` and `res_flag` are the latest entries of a list of
results, and so that `res_flag` stays, is the model's choice (log 13); the hold is as in log 6. -/
def Obligations.RxreadReturnsHeldWord : Prop :=
  ∀ s : State, s.dec.status = .done →
    ∃ t, exec .rxread s = .next t ∧ t.resData = some s.dec.shiftRegister ∧ t.resFlag = s.resFlag ∧
      t.hostHold = s.txRun.busy ∧ t.dataReady = false ∧
      t = { s with dec := { s.dec with status := .init }, readHeld := t.readHeld, results := t.results }

/-- `44_accessors.md` R105, with no word held: RXREAD holds the host and changes nothing else, and a held host's turn
passes while ticks run on. That the hold is the field readHeld is the model's reading (log 6), and that the held host's
turn passes on a schedule is its choice (logs 1 and 2). -/
def Obligations.RxreadHoldsUntilDone : Prop :=
  ∀ s : State, s.dec.status ≠ .done →
    exec .rxread s = .next { s with readHeld := true } ∧
    (∀ ts, s.mark = none → s.readHeld = true → s.turns = .host :: ts → step s = .next { s with turns := ts }) ∧
    (∀ ts level, s.mark = none → s.rxCfg.tmrEn = true → s.turns = .tickSource level :: ts →
      step s = .next { s with turns := ts, dec := decoderTick level s.dec })

/-- `44_accessors.md` R105: a held RXREAD is taken at the first point where `status` is DONE, before any other agent
moves. That it comes before the schedule's next turn is the model's reading (log 5), so is the field readHeld (log 6), and
that results are kept as a list is its choice (log 13). -/
def Obligations.HeldReadTakenAtDone : Prop :=
  ∀ s : State, s.mark = none → s.readHeld = true → s.dec.status = .done →
    step s = .next { s with
      dec := { s.dec with status := .init }, readHeld := false,
      results := s.results ++ [.data s.dec.shiftRegister] }

/-- `44_accessors.md` R106 and R107, `20_memory.md` R37: after an RXHAS that answers 1, whatever ticks come, the
host's RXREAD does not hold and returns the word that was held when RXHAS answered. The spec marks R107 derived; that
results are kept as a list is the model's choice (log 13), and so are the schedule and the host's list of commands (logs
1 and 16). -/
def Obligations.PolledReadReturnsTheHeldWord : Prop :=
  ∀ (s : State) (ls : List Level) (p : CmdPort) (prog : List CmdPort) (ts : List Turn),
    s.mark = none → s.hostHold = false →
    exec .rxhas s = .next { s with results := s.results ++ [.flag true] } →
    p.cmd = 0x04#8 → s.hostProg = p :: prog → s.turns = ls.map .tickSource ++ .host :: ts →
    runSteps (ls.length + 1) s = .next { s with
      dec := { s.dec with status := .init }, hostProg := prog, turns := ts,
      results := s.results ++ [.data s.dec.shiftRegister] }

/-! ## The machine -/

/-- `00_scope.md` R6 and R7, `30_encoding.md` R42: a step runs the operation that the agent whose turn it is brings.
A host command is taken from its port; a tick pulse brings its level; a micro-operation is followed by the
sequencer's own part of the step. The schedule, the host's list of commands, and that `step` adds the sequencer's part
after `exec`, are the model's choices (logs 1, 16 and 28). -/
def Obligations.StepRunsDecodedOperation : Prop :=
  ∀ (s : State) (ts : List Turn), ScheduleDecides s →
    (∀ p rest i, s.turns = .host :: ts → s.hostHold = false → s.hostProg = p :: rest →
      decode (.cmd p) = .instr i → step s = exec i { s with turns := ts, hostProg := rest }) ∧
    (∀ level i, s.turns = .tickSource level :: ts → s.rxCfg.tmrEn = true →
      decode (.event 0x05#8 level) = .instr i → step s = exec i { s with turns := ts }) ∧
    (∀ u i, s.turns = .txSequencer :: ts → s.txRun.busy = true →
      (txProgram s.txRun.word)[s.txRun.upc.toNat]? = some u → decode (.micro u) = .instr i →
      ∃ m, exec i { s with turns := ts } = .next m ∧ step s = .next m.txAdvance)

/-- `42_receiver_config.md` R85, `41_transmitter.md` R69 and R70, `44_accessors.md` R105: before RXBEGIN no TICK
happens, a held host issues nothing, an idle sequencer has no step, and a host with no further command issues none.
That such a turn passes on a schedule is the model's choice (logs 1 and 2). -/
def Obligations.AgentsWithNoStepLetTheirTurnPass : Prop :=
  ∀ (s : State) (t : Turn) (ts : List Turn), ScheduleDecides s → s.turns = t :: ts →
    ((∃ level, t = .tickSource level) ∧ s.rxCfg.tmrEn = false ∨
     t = .host ∧ (s.hostHold = true ∨ s.hostProg = []) ∨
     t = .txSequencer ∧ s.txRun.busy = false) →
    step s = .next { s with turns := ts }

/-- `60_exceptions.md` R110: a state that carries a refusal mark takes no further step, whatever its reason and
whatever else it holds. That the mark is a field of State is the model's reading (log 4). -/
def Obligations.MarkedStateTakesNoStep : Prop :=
  ∀ (s : State) (r : RefuseReason), s.mark = some r →
    step s = .refused (.markedRefused r) ∧ ∀ n, runSteps (n + 1) s = .refused (.markedRefused r)

/-- `10_state.md` R26: the registers after power-on reset. -/
def Obligations.ResetGivesTheStatedValues : Prop :=
  State.reset.txCfg = ⟨false, 0#8, 0#32, 0#32⟩ ∧
  State.reset.txRun = ⟨false, 0#32, 0#9, false, false, 0⟩ ∧
  State.reset.rxCfg = ⟨false, 0#8, 1#11, 1#16, false⟩ ∧
  State.reset.dec = ⟨.init, 0#32, 0#8, 0#8, 0#2, false⟩ ∧ State.reset.dec.status.code = 0#3 ∧
  State.reset.maxL = 14#8 ∧ State.reset.maxS = 6#8 ∧ State.reset.minS = 2#8

/-- `70_reset_and_hazards.md` R125: `rst` at any point gives every register its reset value, cuts a frame short and
abandons a held RXREAD without a result. That the outside world's part of the state stays is the model's choice
(log 12), and so is the schedule (log 1). -/
def Obligations.PowerOnResetRestoresRegisters : Prop :=
  ∀ (s : State) (ts : List Turn), ScheduleDecides s → s.turns = .rst :: ts →
    ∃ t, step s = .next t ∧
      t = { State.reset with
        coreClockHz := s.coreClockHz, results := s.results, txTrace := s.txTrace, hostProg := s.hostProg,
        turns := ts, draws := s.draws } ∧
      t.txOe = false ∧ t.tmrEnable = false ∧ t.hostHold = false ∧ t.dataReady = false

/-- The state after reset meets the invariant. Its clauses are the legal values of `10_state.md` R13 to R15 and R17
and the laws of `43_decoder.md` R96 and R97, which the spec marks derived. -/
def Obligations.ResetMeetsInvariant : Prop := Inv State.reset

/-- Every step of every agent keeps the invariant: the registers' legal values (`10_state.md` R13 to R15, R17), a busy
sequencer inside its program (`41_transmitter.md` R70), and the decoder's laws (`43_decoder.md` R96 and R97, which the
spec marks derived, in the form of log 21). -/
def Obligations.StepKeepsInvariant : Prop :=
  ∀ s t : State, Inv s → step s = .next t → Inv t

/-- `60_exceptions.md` R108: the machine never faults from a state that meets the invariant; the one fault the model
has (the model's choice, log 20) is not reached. -/
def Obligations.LegalStatesNeverFault : Prop :=
  ∀ (s : State) (f : Fault), Inv s → step s ≠ .fault f

/-- `60_exceptions.md` R111: nothing clears `tmr_en` except reset, which is an entry of the schedule (the model's choice,
logs 1 and 12). -/
def Obligations.OnlyResetStopsTheTickSource : Prop :=
  ∀ s t : State, step s = .next t → s.rxCfg.tmrEn = true → t.rxCfg.tmrEn = false → s.turns.head? = some .rst

/-- `60_exceptions.md` R121: the transmitter and the receiver share no state. What an operation leaves in either part
depends on that part alone (with the clock, which both calculators read). The count of draws and the trace on the one
side, the hold and the list of results on the other, are the model's own fields (logs 6, 9, 13 and 14). -/
def Obligations.TransmitterAndReceiverShareNoState : Prop :=
  ∀ (i : Instr) (a b a' b' : State), exec i a = .next a' → exec i b = .next b' → a.coreClockHz = b.coreClockHz →
    (a.txCfg = b.txCfg → a.txRun = b.txRun → a.txTrace = b.txTrace → a.draws = b.draws →
      a'.txCfg = b'.txCfg ∧ a'.txRun = b'.txRun ∧ a'.txTrace = b'.txTrace ∧ a'.draws = b'.draws) ∧
    (a.rxCfg = b.rxCfg → a.dec = b.dec → a.readHeld = b.readHeld → a.results = b.results →
      a'.rxCfg = b'.rxCfg ∧ a'.dec = b'.dec ∧ a'.readHeld = b'.readHeld ∧ a'.results = b'.results)

/-- `60_exceptions.md` R108: no operation raises an exception. Every operation, with every operand and in every
state, answers a next state (a refused command's is the state with its mark, log 4). -/
def Obligations.EveryOperationAnswersANextState : Prop :=
  ∀ (i : Instr) (s : State), ∃ t, exec i s = .next t

/-- `44_accessors.md` R105 corner case 2, `60_exceptions.md` R123: an RXREAD before any RXBEGIN holds for ever. With
the tick source off and no frame being sent, every run without a reset leaves the host held and returns nothing. The
spec marks the corner case derived; that the turns pass (logs 1 and 2), that an empty schedule leaves the state as it is
(log 3) and the field readHeld (log 6) are the model's. -/
def Obligations.ReadBeforeBeginHoldsForEver : Prop :=
  ∀ (n : Nat) (s : State), s.mark = none → s.readHeld = true → s.rxCfg.tmrEn = false → s.txRun.busy = false →
    s.dec.status = .init → Turn.rst ∉ s.turns →
    ∃ t : State, runSteps n s = .next t ∧ t = { s with turns := s.turns.drop n }
end

