-- ==== Sys2Proof/Laws/State.lean ====
section
/-! SUPPORT. One lemma per field per update of the state, each true by rfl. -/

namespace Sys2Proof.Machine

variable (s : State)

@[simp] theorem State.refuse_coreClockHz (r : RefuseReason) : (s.refuse r).coreClockHz = s.coreClockHz := rfl
@[simp] theorem State.refuse_txCfg (r : RefuseReason) : (s.refuse r).txCfg = s.txCfg := rfl
@[simp] theorem State.refuse_txRun (r : RefuseReason) : (s.refuse r).txRun = s.txRun := rfl
@[simp] theorem State.refuse_rxCfg (r : RefuseReason) : (s.refuse r).rxCfg = s.rxCfg := rfl
@[simp] theorem State.refuse_dec (r : RefuseReason) : (s.refuse r).dec = s.dec := rfl
@[simp] theorem State.refuse_readHeld (r : RefuseReason) : (s.refuse r).readHeld = s.readHeld := rfl
@[simp] theorem State.refuse_mark (r : RefuseReason) : (s.refuse r).mark = some r := rfl
@[simp] theorem State.refuse_results (r : RefuseReason) : (s.refuse r).results = s.results := rfl
@[simp] theorem State.refuse_txTrace (r : RefuseReason) : (s.refuse r).txTrace = s.txTrace := rfl
@[simp] theorem State.refuse_hostProg (r : RefuseReason) : (s.refuse r).hostProg = s.hostProg := rfl
@[simp] theorem State.refuse_turns (r : RefuseReason) : (s.refuse r).turns = s.turns := rfl
@[simp] theorem State.refuse_draws (r : RefuseReason) : (s.refuse r).draws = s.draws := rfl

@[simp] theorem State.withTxCfg_coreClockHz (c : TxConfig) : (s.withTxCfg c).coreClockHz = s.coreClockHz := rfl
@[simp] theorem State.withTxCfg_txCfg (c : TxConfig) : (s.withTxCfg c).txCfg = c := rfl
@[simp] theorem State.withTxCfg_txRun (c : TxConfig) : (s.withTxCfg c).txRun = s.txRun := rfl
@[simp] theorem State.withTxCfg_rxCfg (c : TxConfig) : (s.withTxCfg c).rxCfg = s.rxCfg := rfl
@[simp] theorem State.withTxCfg_dec (c : TxConfig) : (s.withTxCfg c).dec = s.dec := rfl
@[simp] theorem State.withTxCfg_readHeld (c : TxConfig) : (s.withTxCfg c).readHeld = s.readHeld := rfl
@[simp] theorem State.withTxCfg_mark (c : TxConfig) : (s.withTxCfg c).mark = s.mark := rfl
@[simp] theorem State.withTxCfg_results (c : TxConfig) : (s.withTxCfg c).results = s.results := rfl
@[simp] theorem State.withTxCfg_txTrace (c : TxConfig) : (s.withTxCfg c).txTrace = s.txTrace := rfl
@[simp] theorem State.withTxCfg_hostProg (c : TxConfig) : (s.withTxCfg c).hostProg = s.hostProg := rfl
@[simp] theorem State.withTxCfg_turns (c : TxConfig) : (s.withTxCfg c).turns = s.turns := rfl
@[simp] theorem State.withTxCfg_draws (c : TxConfig) : (s.withTxCfg c).draws = s.draws := rfl

@[simp] theorem State.withTxRun_coreClockHz (r : TxRun) : (s.withTxRun r).coreClockHz = s.coreClockHz := rfl
@[simp] theorem State.withTxRun_txCfg (r : TxRun) : (s.withTxRun r).txCfg = s.txCfg := rfl
@[simp] theorem State.withTxRun_txRun (r : TxRun) : (s.withTxRun r).txRun = r := rfl
@[simp] theorem State.withTxRun_rxCfg (r : TxRun) : (s.withTxRun r).rxCfg = s.rxCfg := rfl
@[simp] theorem State.withTxRun_dec (r : TxRun) : (s.withTxRun r).dec = s.dec := rfl
@[simp] theorem State.withTxRun_readHeld (r : TxRun) : (s.withTxRun r).readHeld = s.readHeld := rfl
@[simp] theorem State.withTxRun_mark (r : TxRun) : (s.withTxRun r).mark = s.mark := rfl
@[simp] theorem State.withTxRun_results (r : TxRun) : (s.withTxRun r).results = s.results := rfl
@[simp] theorem State.withTxRun_txTrace (r : TxRun) : (s.withTxRun r).txTrace = s.txTrace := rfl
@[simp] theorem State.withTxRun_hostProg (r : TxRun) : (s.withTxRun r).hostProg = s.hostProg := rfl
@[simp] theorem State.withTxRun_turns (r : TxRun) : (s.withTxRun r).turns = s.turns := rfl
@[simp] theorem State.withTxRun_draws (r : TxRun) : (s.withTxRun r).draws = s.draws := rfl

@[simp] theorem State.withRxCfg_coreClockHz (c : RxConfig) : (s.withRxCfg c).coreClockHz = s.coreClockHz := rfl
@[simp] theorem State.withRxCfg_txCfg (c : RxConfig) : (s.withRxCfg c).txCfg = s.txCfg := rfl
@[simp] theorem State.withRxCfg_txRun (c : RxConfig) : (s.withRxCfg c).txRun = s.txRun := rfl
@[simp] theorem State.withRxCfg_rxCfg (c : RxConfig) : (s.withRxCfg c).rxCfg = c := rfl
@[simp] theorem State.withRxCfg_dec (c : RxConfig) : (s.withRxCfg c).dec = s.dec := rfl
@[simp] theorem State.withRxCfg_readHeld (c : RxConfig) : (s.withRxCfg c).readHeld = s.readHeld := rfl
@[simp] theorem State.withRxCfg_mark (c : RxConfig) : (s.withRxCfg c).mark = s.mark := rfl
@[simp] theorem State.withRxCfg_results (c : RxConfig) : (s.withRxCfg c).results = s.results := rfl
@[simp] theorem State.withRxCfg_txTrace (c : RxConfig) : (s.withRxCfg c).txTrace = s.txTrace := rfl
@[simp] theorem State.withRxCfg_hostProg (c : RxConfig) : (s.withRxCfg c).hostProg = s.hostProg := rfl
@[simp] theorem State.withRxCfg_turns (c : RxConfig) : (s.withRxCfg c).turns = s.turns := rfl
@[simp] theorem State.withRxCfg_draws (c : RxConfig) : (s.withRxCfg c).draws = s.draws := rfl

@[simp] theorem State.withDec_coreClockHz (c : Decoder) : (s.withDec c).coreClockHz = s.coreClockHz := rfl
@[simp] theorem State.withDec_txCfg (c : Decoder) : (s.withDec c).txCfg = s.txCfg := rfl
@[simp] theorem State.withDec_txRun (c : Decoder) : (s.withDec c).txRun = s.txRun := rfl
@[simp] theorem State.withDec_rxCfg (c : Decoder) : (s.withDec c).rxCfg = s.rxCfg := rfl
@[simp] theorem State.withDec_dec (c : Decoder) : (s.withDec c).dec = c := rfl
@[simp] theorem State.withDec_readHeld (c : Decoder) : (s.withDec c).readHeld = s.readHeld := rfl
@[simp] theorem State.withDec_mark (c : Decoder) : (s.withDec c).mark = s.mark := rfl
@[simp] theorem State.withDec_results (c : Decoder) : (s.withDec c).results = s.results := rfl
@[simp] theorem State.withDec_txTrace (c : Decoder) : (s.withDec c).txTrace = s.txTrace := rfl
@[simp] theorem State.withDec_hostProg (c : Decoder) : (s.withDec c).hostProg = s.hostProg := rfl
@[simp] theorem State.withDec_turns (c : Decoder) : (s.withDec c).turns = s.turns := rfl
@[simp] theorem State.withDec_draws (c : Decoder) : (s.withDec c).draws = s.draws := rfl

@[simp] theorem State.withReadHeld_coreClockHz (h : Bool) : (s.withReadHeld h).coreClockHz = s.coreClockHz := rfl
@[simp] theorem State.withReadHeld_txCfg (h : Bool) : (s.withReadHeld h).txCfg = s.txCfg := rfl
@[simp] theorem State.withReadHeld_txRun (h : Bool) : (s.withReadHeld h).txRun = s.txRun := rfl
@[simp] theorem State.withReadHeld_rxCfg (h : Bool) : (s.withReadHeld h).rxCfg = s.rxCfg := rfl
@[simp] theorem State.withReadHeld_dec (h : Bool) : (s.withReadHeld h).dec = s.dec := rfl
@[simp] theorem State.withReadHeld_readHeld (h : Bool) : (s.withReadHeld h).readHeld = h := rfl
@[simp] theorem State.withReadHeld_mark (h : Bool) : (s.withReadHeld h).mark = s.mark := rfl
@[simp] theorem State.withReadHeld_results (h : Bool) : (s.withReadHeld h).results = s.results := rfl
@[simp] theorem State.withReadHeld_txTrace (h : Bool) : (s.withReadHeld h).txTrace = s.txTrace := rfl
@[simp] theorem State.withReadHeld_hostProg (h : Bool) : (s.withReadHeld h).hostProg = s.hostProg := rfl
@[simp] theorem State.withReadHeld_turns (h : Bool) : (s.withReadHeld h).turns = s.turns := rfl
@[simp] theorem State.withReadHeld_draws (h : Bool) : (s.withReadHeld h).draws = s.draws := rfl

@[simp] theorem State.pushResult_coreClockHz (r : HostResult) : (s.pushResult r).coreClockHz = s.coreClockHz := rfl
@[simp] theorem State.pushResult_txCfg (r : HostResult) : (s.pushResult r).txCfg = s.txCfg := rfl
@[simp] theorem State.pushResult_txRun (r : HostResult) : (s.pushResult r).txRun = s.txRun := rfl
@[simp] theorem State.pushResult_rxCfg (r : HostResult) : (s.pushResult r).rxCfg = s.rxCfg := rfl
@[simp] theorem State.pushResult_dec (r : HostResult) : (s.pushResult r).dec = s.dec := rfl
@[simp] theorem State.pushResult_readHeld (r : HostResult) : (s.pushResult r).readHeld = s.readHeld := rfl
@[simp] theorem State.pushResult_mark (r : HostResult) : (s.pushResult r).mark = s.mark := rfl
@[simp] theorem State.pushResult_results (r : HostResult) : (s.pushResult r).results = s.results ++ [r] := rfl
@[simp] theorem State.pushResult_txTrace (r : HostResult) : (s.pushResult r).txTrace = s.txTrace := rfl
@[simp] theorem State.pushResult_hostProg (r : HostResult) : (s.pushResult r).hostProg = s.hostProg := rfl
@[simp] theorem State.pushResult_turns (r : HostResult) : (s.pushResult r).turns = s.turns := rfl
@[simp] theorem State.pushResult_draws (r : HostResult) : (s.pushResult r).draws = s.draws := rfl

@[simp] theorem State.pushTrace_coreClockHz (e : LineEvent) : (s.pushTrace e).coreClockHz = s.coreClockHz := rfl
@[simp] theorem State.pushTrace_txCfg (e : LineEvent) : (s.pushTrace e).txCfg = s.txCfg := rfl
@[simp] theorem State.pushTrace_txRun (e : LineEvent) : (s.pushTrace e).txRun = s.txRun := rfl
@[simp] theorem State.pushTrace_rxCfg (e : LineEvent) : (s.pushTrace e).rxCfg = s.rxCfg := rfl
@[simp] theorem State.pushTrace_dec (e : LineEvent) : (s.pushTrace e).dec = s.dec := rfl
@[simp] theorem State.pushTrace_readHeld (e : LineEvent) : (s.pushTrace e).readHeld = s.readHeld := rfl
@[simp] theorem State.pushTrace_mark (e : LineEvent) : (s.pushTrace e).mark = s.mark := rfl
@[simp] theorem State.pushTrace_results (e : LineEvent) : (s.pushTrace e).results = s.results := rfl
@[simp] theorem State.pushTrace_txTrace (e : LineEvent) : (s.pushTrace e).txTrace = s.txTrace ++ [e] := rfl
@[simp] theorem State.pushTrace_hostProg (e : LineEvent) : (s.pushTrace e).hostProg = s.hostProg := rfl
@[simp] theorem State.pushTrace_turns (e : LineEvent) : (s.pushTrace e).turns = s.turns := rfl
@[simp] theorem State.pushTrace_draws (e : LineEvent) : (s.pushTrace e).draws = s.draws := rfl

@[simp] theorem State.withHostProg_coreClockHz (p : List CmdPort) : (s.withHostProg p).coreClockHz = s.coreClockHz := rfl
@[simp] theorem State.withHostProg_txCfg (p : List CmdPort) : (s.withHostProg p).txCfg = s.txCfg := rfl
@[simp] theorem State.withHostProg_txRun (p : List CmdPort) : (s.withHostProg p).txRun = s.txRun := rfl
@[simp] theorem State.withHostProg_rxCfg (p : List CmdPort) : (s.withHostProg p).rxCfg = s.rxCfg := rfl
@[simp] theorem State.withHostProg_dec (p : List CmdPort) : (s.withHostProg p).dec = s.dec := rfl
@[simp] theorem State.withHostProg_readHeld (p : List CmdPort) : (s.withHostProg p).readHeld = s.readHeld := rfl
@[simp] theorem State.withHostProg_mark (p : List CmdPort) : (s.withHostProg p).mark = s.mark := rfl
@[simp] theorem State.withHostProg_results (p : List CmdPort) : (s.withHostProg p).results = s.results := rfl
@[simp] theorem State.withHostProg_txTrace (p : List CmdPort) : (s.withHostProg p).txTrace = s.txTrace := rfl
@[simp] theorem State.withHostProg_hostProg (p : List CmdPort) : (s.withHostProg p).hostProg = p := rfl
@[simp] theorem State.withHostProg_turns (p : List CmdPort) : (s.withHostProg p).turns = s.turns := rfl
@[simp] theorem State.withHostProg_draws (p : List CmdPort) : (s.withHostProg p).draws = s.draws := rfl

@[simp] theorem State.withTurns_coreClockHz (ts : List Turn) : (s.withTurns ts).coreClockHz = s.coreClockHz := rfl
@[simp] theorem State.withTurns_txCfg (ts : List Turn) : (s.withTurns ts).txCfg = s.txCfg := rfl
@[simp] theorem State.withTurns_txRun (ts : List Turn) : (s.withTurns ts).txRun = s.txRun := rfl
@[simp] theorem State.withTurns_rxCfg (ts : List Turn) : (s.withTurns ts).rxCfg = s.rxCfg := rfl
@[simp] theorem State.withTurns_dec (ts : List Turn) : (s.withTurns ts).dec = s.dec := rfl
@[simp] theorem State.withTurns_readHeld (ts : List Turn) : (s.withTurns ts).readHeld = s.readHeld := rfl
@[simp] theorem State.withTurns_mark (ts : List Turn) : (s.withTurns ts).mark = s.mark := rfl
@[simp] theorem State.withTurns_results (ts : List Turn) : (s.withTurns ts).results = s.results := rfl
@[simp] theorem State.withTurns_txTrace (ts : List Turn) : (s.withTurns ts).txTrace = s.txTrace := rfl
@[simp] theorem State.withTurns_hostProg (ts : List Turn) : (s.withTurns ts).hostProg = s.hostProg := rfl
@[simp] theorem State.withTurns_turns (ts : List Turn) : (s.withTurns ts).turns = ts := rfl
@[simp] theorem State.withTurns_draws (ts : List Turn) : (s.withTurns ts).draws = s.draws := rfl

@[simp] theorem State.nextDraw_coreClockHz : (s.nextDraw).coreClockHz = s.coreClockHz := rfl
@[simp] theorem State.nextDraw_txCfg : (s.nextDraw).txCfg = s.txCfg := rfl
@[simp] theorem State.nextDraw_txRun : (s.nextDraw).txRun = s.txRun := rfl
@[simp] theorem State.nextDraw_rxCfg : (s.nextDraw).rxCfg = s.rxCfg := rfl
@[simp] theorem State.nextDraw_dec : (s.nextDraw).dec = s.dec := rfl
@[simp] theorem State.nextDraw_readHeld : (s.nextDraw).readHeld = s.readHeld := rfl
@[simp] theorem State.nextDraw_mark : (s.nextDraw).mark = s.mark := rfl
@[simp] theorem State.nextDraw_results : (s.nextDraw).results = s.results := rfl
@[simp] theorem State.nextDraw_txTrace : (s.nextDraw).txTrace = s.txTrace := rfl
@[simp] theorem State.nextDraw_hostProg : (s.nextDraw).hostProg = s.hostProg := rfl
@[simp] theorem State.nextDraw_turns : (s.nextDraw).turns = s.turns := rfl
@[simp] theorem State.nextDraw_draws : (s.nextDraw).draws = s.draws + 1 := rfl

@[simp] theorem State.waitCycles_coreClockHz (n : Nat) : (s.waitCycles n).coreClockHz = s.coreClockHz := rfl
@[simp] theorem State.waitCycles_txCfg (n : Nat) : (s.waitCycles n).txCfg = s.txCfg := rfl
@[simp] theorem State.waitCycles_txRun (n : Nat) : (s.waitCycles n).txRun = { s.txRun with time := s.txRun.time + n } := rfl
@[simp] theorem State.waitCycles_rxCfg (n : Nat) : (s.waitCycles n).rxCfg = s.rxCfg := rfl
@[simp] theorem State.waitCycles_dec (n : Nat) : (s.waitCycles n).dec = s.dec := rfl
@[simp] theorem State.waitCycles_readHeld (n : Nat) : (s.waitCycles n).readHeld = s.readHeld := rfl
@[simp] theorem State.waitCycles_mark (n : Nat) : (s.waitCycles n).mark = s.mark := rfl
@[simp] theorem State.waitCycles_results (n : Nat) : (s.waitCycles n).results = s.results := rfl
@[simp] theorem State.waitCycles_txTrace (n : Nat) : (s.waitCycles n).txTrace = s.txTrace := rfl
@[simp] theorem State.waitCycles_hostProg (n : Nat) : (s.waitCycles n).hostProg = s.hostProg := rfl
@[simp] theorem State.waitCycles_turns (n : Nat) : (s.waitCycles n).turns = s.turns := rfl
@[simp] theorem State.waitCycles_draws (n : Nat) : (s.waitCycles n).draws = s.draws := rfl

@[simp] theorem State.driveLine_coreClockHz (l : Level) : (s.driveLine l).coreClockHz = s.coreClockHz := rfl
@[simp] theorem State.driveLine_txCfg (l : Level) : (s.driveLine l).txCfg = s.txCfg := rfl
@[simp] theorem State.driveLine_txRun (l : Level) : (s.driveLine l).txRun = { s.txRun with level := l } := rfl
@[simp] theorem State.driveLine_rxCfg (l : Level) : (s.driveLine l).rxCfg = s.rxCfg := rfl
@[simp] theorem State.driveLine_dec (l : Level) : (s.driveLine l).dec = s.dec := rfl
@[simp] theorem State.driveLine_readHeld (l : Level) : (s.driveLine l).readHeld = s.readHeld := rfl
@[simp] theorem State.driveLine_mark (l : Level) : (s.driveLine l).mark = s.mark := rfl
@[simp] theorem State.driveLine_results (l : Level) : (s.driveLine l).results = s.results := rfl
@[simp] theorem State.driveLine_txTrace (l : Level) : (s.driveLine l).txTrace = s.txTrace ++ [.drive s.txRun.time l] := rfl
@[simp] theorem State.driveLine_hostProg (l : Level) : (s.driveLine l).hostProg = s.hostProg := rfl
@[simp] theorem State.driveLine_turns (l : Level) : (s.driveLine l).turns = s.turns := rfl
@[simp] theorem State.driveLine_draws (l : Level) : (s.driveLine l).draws = s.draws := rfl

@[simp] theorem State.powerOnReset_coreClockHz : (s.powerOnReset).coreClockHz = s.coreClockHz := rfl
@[simp] theorem State.powerOnReset_txCfg : (s.powerOnReset).txCfg = TxConfig.reset := rfl
@[simp] theorem State.powerOnReset_txRun : (s.powerOnReset).txRun = TxRun.reset := rfl
@[simp] theorem State.powerOnReset_rxCfg : (s.powerOnReset).rxCfg = RxConfig.reset := rfl
@[simp] theorem State.powerOnReset_dec : (s.powerOnReset).dec = Decoder.reset := rfl
@[simp] theorem State.powerOnReset_readHeld : (s.powerOnReset).readHeld = false := rfl
@[simp] theorem State.powerOnReset_mark : (s.powerOnReset).mark = s.mark := rfl
@[simp] theorem State.powerOnReset_results : (s.powerOnReset).results = s.results := rfl
@[simp] theorem State.powerOnReset_txTrace : (s.powerOnReset).txTrace = s.txTrace := rfl
@[simp] theorem State.powerOnReset_hostProg : (s.powerOnReset).hostProg = s.hostProg := rfl
@[simp] theorem State.powerOnReset_turns : (s.powerOnReset).turns = s.turns := rfl
@[simp] theorem State.powerOnReset_draws : (s.powerOnReset).draws = s.draws := rfl

end Sys2Proof.Machine
end

