-- ==== Sys2Proof/Laws/Ops.lean ====
section
/-! SUPPORT. For each shared operation, what it can do, said once: the counters' arithmetic, the sequencer's advance,
the divider search, and the cases of a decoder tick. -/

namespace Sys2Proof.Machine

/-- `sat_inc_W` is `min(v + 1, 2^W - 1)`. -/
theorem satInc_toNat {w : Nat} (v : BitVec w) : (satInc v).toNat = min (v.toNat + 1) (2 ^ w - 1) := by
  have hv := v.isLt
  unfold satInc
  split
  · next h => subst h; simp
  · next h =>
    have hne : v.toNat ≠ 2 ^ w - 1 := fun e => h (BitVec.eq_of_toNat_eq (by simpa using e))
    have hw : w ≠ 0 := by rintro rfl; simp at hne; omega
    have h1 : 1 < 2 ^ w := Nat.one_lt_two_pow hw
    rw [BitVec.toNat_add, BitVec.toNat_ofNat, Nat.mod_eq_of_lt h1, Nat.mod_eq_of_lt (by omega)]
    omega

/-- `wrap_inc_W` is `(v + 1) mod 2^W`. -/
theorem wrapInc_toNat {w : Nat} (v : BitVec w) : (wrapInc v).toNat = (v.toNat + 1) % 2 ^ w := by
  simp [wrapInc, BitVec.toNat_add]

/-- `shl1_32` with a bit put in is `(2 v + b) mod 2^32`. -/
theorem shiftIn_eq_ofNat (v : BitVec 32) (b : Bool) :
    shiftIn v b = BitVec.ofNat 32 (v.toNat * 2 + b.toNat) := by
  have hv := v.isLt
  apply BitVec.eq_of_toNat_eq
  cases b
  · simp [shiftIn, Nat.shiftLeft_eq]
  · have hor : (v <<< 1) ||| 1#32 = v <<< 1 + 1#32 := by
      rw [BitVec.add_eq_or_of_and_eq_zero]
      ext i hi
      cases i <;> simp
    simp [shiftIn, hor, BitVec.toNat_add, Nat.shiftLeft_eq]

/-- An entry of a program stands below its length. -/
theorem txProgram_upc_lt {d : Payload} {n : Nat} {u : MicroCode} (h : (txProgram d)[n]? = some u) :
    n < (txProgram d).length :=
  (List.getElem?_eq_some_iff.mp h).1

/-- The sequencer's advance moves `tx_upc` and may clear `tx_busy`. -/
theorem State.txAdvance_eq (s : State) : s.txAdvance = { s with
    txRun := { s.txRun with
      upc := s.txRun.upc + 1#9,
      busy := if (s.txRun.upc + 1#9).toNat = (txProgram s.txRun.word).length then false else s.txRun.busy } } :=
  rfl

/-- The divider search answers the first divider that fits or the clamp. -/
theorem searchDivider_cases (clock limit samples : Nat) (ds : List Nat) :
    (∃ pre d post, ds = pre ++ d :: post ∧ clock / d / samples < limit ∧
      (∀ e ∈ pre, ¬ clock / e / samples < limit) ∧
      searchDivider clock limit samples ds = (d, clock / d / samples)) ∨
    ((∀ e ∈ ds, ¬ clock / e / samples < limit) ∧ searchDivider clock limit samples ds = (1024, limit)) := by
  induction ds with
  | nil => exact .inr ⟨by simp, rfl⟩
  | cons d ds ih =>
    by_cases hd : clock / d / samples < limit
    · exact .inl ⟨[], d, ds, rfl, hd, by simp, by simp [searchDivider, hd]⟩
    · rcases ih with ⟨pre, e, post, rfl, he, hpre, hs⟩ | ⟨hall, hs⟩
      · refine .inl ⟨d :: pre, e, post, rfl, he, ?_, by simp [searchDivider, hd, hs]⟩
        simpa using ⟨Nat.le_of_not_lt hd, fun x hx => Nat.le_of_not_lt (hpre x hx)⟩
      · refine .inr ⟨?_, by simp [searchDivider, hd, hs]⟩
        simpa using ⟨Nat.le_of_not_lt hd, fun x hx => Nat.le_of_not_lt (hall x hx)⟩

/-- The cases of a decoder tick: dropped, INIT tick, silent, transition. -/
theorem decoderTick_cases (level : Level) (c : Decoder) :
    (c.status = .done ∧ decoderTick level c = c) ∨
    (c.status = .init ∧ decoderTick level c = initTick level) ∨
    (c.status ≠ .done ∧ c.status ≠ .init ∧ decoderTick level c = sampleLine level c) := by
  cases h : c.status <;> simp [decoderTick, h]

/-- A sampled tick with the level unchanged. -/
theorem sampleLine_silent (c : Decoder) : sampleLine c.previousLevel c =
    { c with ticksSinceTransition := satInc c.ticksSinceTransition } := by
  simp [sampleLine]

/-- A sampled tick with the level changed. -/
theorem sampleLine_transition {level : Level} {c : Decoder} (h : level ≠ c.previousLevel) :
    sampleLine level c = onTransition
      { c with previousLevel := level, ticksSinceTransition := satInc c.ticksSinceTransition } := by
  simp [sampleLine, h]

/-- What a transition does, by the count of transitions before it. -/
theorem onTransition_cases (c : Decoder) :
    (c.transitionsThisCell = 0#2 ∧ onTransition c = firstTransition { c with transitionsThisCell := 1#2 }) ∨
    (c.transitionsThisCell = 1#2 ∧ onTransition c = secondTransition { c with transitionsThisCell := 2#2 }) ∨
    (2 ≤ c.transitionsThisCell.toNat ∧
      onTransition c = discardFrame { c with transitionsThisCell := 3#2 }) := by
  have h : ∀ v : BitVec 2, (v = 0#2 ∧ satInc v = 1#2) ∨ (v = 1#2 ∧ satInc v = 2#2) ∨
      (2 ≤ v.toNat ∧ satInc v = 3#2) := by decide
  rcases h c.transitionsThisCell with ⟨h0, h1⟩ | ⟨h0, h1⟩ | ⟨h0, h1⟩
  · exact .inl ⟨h0, by simp [onTransition, h1]⟩
  · exact .inr (.inl ⟨h0, by simp [onTransition, h1]⟩)
  · exact .inr (.inr ⟨h0, by simp [onTransition, h1]⟩)

/-- `MAXL` is 14. -/
theorem maxL_eq : maxL = 14#8 := by decide
/-- `MAXS` is 6. -/
theorem maxS_eq : maxS = 6#8 := by decide
/-- `MINS` is 2. -/
theorem minS_eq : minS = 2#8 := by decide
/-- `2·MINS` is 4. -/
theorem twiceMinS_eq : twiceMinS = 4#8 := by decide

/-- A first transition, by the tick it falls on. -/
theorem firstTransition_cases (c : Decoder) :
    ((c.ticksSinceTransition.toNat < 2 ∨ 14 < c.ticksSinceTransition.toNat) ∧
      firstTransition c = discardFrame c) ∨
    (7 ≤ c.ticksSinceTransition.toNat ∧ c.ticksSinceTransition.toNat ≤ 14 ∧
      firstTransition c = zeroSymbol c) ∨
    (2 ≤ c.ticksSinceTransition.toNat ∧ c.ticksSinceTransition.toNat ≤ 6 ∧ firstTransition c = c) := by
  unfold firstTransition
  rw [maxL_eq, maxS_eq, minS_eq]
  split
  · next h => exact .inl ⟨by simpa [BitVec.lt_def, or_comm] using h, rfl⟩
  · next h =>
    simp only [BitVec.lt_def, BitVec.toNat_ofNat, not_or, Nat.not_lt] at h
    split
    · next h2 =>
      simp only [BitVec.lt_def, BitVec.toNat_ofNat] at h2
      exact .inr (.inl ⟨by omega, by omega, rfl⟩)
    · next h2 =>
      simp only [BitVec.lt_def, BitVec.toNat_ofNat] at h2
      exact .inr (.inr ⟨by omega, by omega, rfl⟩)

/-- A second transition, by the tick it falls on. -/
theorem secondTransition_cases (c : Decoder) :
    ((c.ticksSinceTransition.toNat < 4 ∨ 14 < c.ticksSinceTransition.toNat) ∧
      secondTransition c = discardFrame c) ∨
    (4 ≤ c.ticksSinceTransition.toNat ∧ c.ticksSinceTransition.toNat ≤ 14 ∧
      secondTransition c = oneSymbol c) := by
  unfold secondTransition
  rw [maxL_eq, twiceMinS_eq]
  split
  · next h => exact .inl ⟨by simpa [BitVec.lt_def, or_comm] using h, rfl⟩
  · next h =>
    simp only [BitVec.lt_def, BitVec.toNat_ofNat, not_or, Nat.not_lt] at h
    exact .inr ⟨by omega, by omega, rfl⟩

end Sys2Proof.Machine
end

