-- ==== Sys2Proof/Laws/PerInstr.lean ====
section
/-! SUPPORT. Statements for all instructions, one lemma per constructor of `Instr`. -/

namespace Sys2Proof.Laws.IssuedByOneAgent

/-- The operation is well formed for the agent that issues it and for no other agent (`30_encoding.md` R43, R44). -/
def Statement (i : Instr) : Prop := ∀ a : Agent, i.wellFormedFor a = true ↔ a = i.issuer

theorem txbegin (pin : PinId) (rate : Rate) : Statement (.txbegin pin rate) := by
  intro a; cases a <;> simp [Instr.wellFormedFor, Instr.issuer]

theorem txsend (data : Payload) : Statement (.txsend data) := by
  intro a; cases a <;> simp [Instr.wellFormedFor, Instr.issuer]

theorem rxbegin (pin : PinId) (rate : Rate) : Statement (.rxbegin pin rate) := by
  intro a; cases a <;> simp [Instr.wellFormedFor, Instr.issuer]

theorem rxhas : Statement .rxhas := by
  intro a; cases a <;> simp [Instr.wellFormedFor, Instr.issuer]

theorem rxread : Statement .rxread := by
  intro a; cases a <;> simp [Instr.wellFormedFor, Instr.issuer]

theorem tick (level : Level) : Statement (.tick level) := by
  intro a; cases a <;> simp [Instr.wellFormedFor, Instr.issuer]

theorem tgl : Statement .tgl := by
  intro a; cases a <;> simp [Instr.wellFormedFor, Instr.issuer]

theorem waith : Statement .waith := by
  intro a; cases a <;> simp [Instr.wellFormedFor, Instr.issuer]

theorem waitf : Statement .waitf := by
  intro a; cases a <;> simp [Instr.wellFormedFor, Instr.issuer]

theorem drvlo : Statement .drvlo := by
  intro a; cases a <;> simp [Instr.wellFormedFor, Instr.issuer]

end Sys2Proof.Laws.IssuedByOneAgent
end

