-- ==== Sys2Proof/Laws/Step.lean ====
section
/-! SUPPORT. What one step can do, said once: the inversion of `step`, and the run of several steps. -/

namespace Sys2Proof.Machine

/-- The schedule's turn, when it decides the step. -/
theorem State.fetch_of_turn {s : State} {t : Turn} {ts : List Turn} (hm : s.mark = none)
    (hr : ¬(s.readHeld = true ∧ s.dec.status = .done)) (ht : s.turns = t :: ts) :
    s.fetch = fetchTurn t (s.withTurns ts) := by
  have h : (s.readHeld && Machine.dataReady s.dec) = false := by
    simpa [Machine.dataReady] using hr
  simp [State.fetch, hm, h, ht]

/-- If a step answers a next state, one of these happened. -/
theorem step_next_cases {s t : State} (h : step s = .next t) :
    s.mark = none ∧
    ((s.readHeld = true ∧ s.dec.status = .done ∧ exec .rxread s = .next t) ∨
     (s.turns = [] ∧ t = s) ∨
     (∃ ts, s.turns = .rst :: ts ∧ t = (s.withTurns ts).powerOnReset) ∨
     (∃ u ts, s.turns = u :: ts ∧ t = s.withTurns ts) ∨
     (∃ ts p rest e, s.turns = .host :: ts ∧ s.hostHold = false ∧ s.hostProg = p :: rest ∧
       decode (.cmd p) = .rejected e ∧ t = ((s.withTurns ts).withHostProg rest).refuse .reservedCmd) ∨
     (∃ ts p rest i, s.turns = .host :: ts ∧ s.hostHold = false ∧ s.hostProg = p :: rest ∧
       decode (.cmd p) = .instr i ∧ exec i ((s.withTurns ts).withHostProg rest) = .next t) ∨
     (∃ ts u m, s.turns = .txSequencer :: ts ∧ s.txRun.busy = true ∧ s.microAt = some u ∧
       exec (decodeMicro u) (s.withTurns ts) = .next m ∧ t = m.txAdvance) ∨
     (∃ ts level, s.turns = .tickSource level :: ts ∧ s.rxCfg.tmrEn = true ∧
       exec (.tick level) (s.withTurns ts) = .next t)) := by
  have hm : s.mark = none := by
    cases hmk : s.mark with
    | none => rfl
    | some r => simp [step, State.fetch, hmk] at h
  refine ⟨hm, ?_⟩
  by_cases hr : s.readHeld = true ∧ s.dec.status = .done
  · left
    have hb : (s.readHeld && Machine.dataReady s.dec) = true := by simp [hr.1, hr.2, Machine.dataReady]
    simp only [step, State.fetch, hm, hb, if_true] at h
    exact ⟨hr.1, hr.2, h⟩
  right
  cases ht : s.turns with
  | nil =>
    have hb : (s.readHeld && Machine.dataReady s.dec) = false := by simpa [Machine.dataReady] using hr
    left
    simp [step, State.fetch, hm, hb, ht] at h
    exact ⟨rfl, h.symm⟩
  | cons u ts =>
    right
    rw [step, State.fetch_of_turn hm hr ht] at h
    cases u with
    | rst => exact .inl ⟨ts, rfl, by simpa [fetchTurn] using h.symm⟩
    | host =>
      by_cases hh : s.hostHold = true
      · have hh' : (s.withTurns ts).hostHold = true := hh
        exact .inr (.inl ⟨_, _, rfl, by simpa [fetchTurn, hh'] using h.symm⟩)
      · have hh' : (s.withTurns ts).hostHold = false := by
          change s.hostHold = false
          simpa using hh
        cases hp : s.hostProg with
        | nil => exact .inr (.inl ⟨_, _, rfl, by simpa [fetchTurn, hh', fetchCommand, hp] using h.symm⟩)
        | cons p rest =>
          cases hd : decode (.cmd p) with
          | instr i =>
            simp [fetchTurn, hh', fetchCommand, hp, hd] at h
            exact .inr (.inr (.inr (.inl ⟨ts, p, rest, i, rfl, by simpa using hh, rfl, hd, h⟩)))
          | rejected e =>
            simp [fetchTurn, hh', fetchCommand, hp, hd] at h
            exact .inr (.inr (.inl ⟨ts, p, rest, e, rfl, by simpa using hh, rfl, hd, h.symm⟩))
    | txSequencer =>
      by_cases hb : s.txRun.busy = true
      · have hmic : (s.withTurns ts).microAt = s.microAt := rfl
        cases hu : s.microAt with
        | none => simp [fetchTurn, hb, fetchMicro, hmic, hu] at h
        | some u =>
          simp only [fetchTurn, State.withTurns_txRun, hb, fetchMicro, hmic, hu, if_true] at h
          cases he : exec (decodeMicro u) (s.withTurns ts) with
          | next m =>
            rw [he] at h
            simp [thenAdvance] at h
            exact .inr (.inr (.inr (.inr (.inl ⟨ts, u, m, rfl, hb, rfl, he, h.symm⟩))))
          | fault r => rw [he] at h; simp [thenAdvance] at h
          | refused r => rw [he] at h; simp [thenAdvance] at h
      · have hb' : s.txRun.busy = false := by simpa using hb
        exact .inr (.inl ⟨_, _, rfl, by simpa [fetchTurn, hb'] using h.symm⟩)
    | tickSource level =>
      by_cases he : s.rxCfg.tmrEn = true
      · simp [fetchTurn, he, fetchTick, decode, decodeEvent] at h
        exact .inr (.inr (.inr (.inr (.inr ⟨ts, level, rfl, he, h⟩))))
      · have he' : s.rxCfg.tmrEn = false := by simpa using he
        exact .inr (.inl ⟨_, _, rfl, by simpa [fetchTurn, he'] using h.symm⟩)

/-- A run of no step. -/
@[simp] theorem runSteps_zero (s : State) : runSteps 0 s = .next s := rfl

/-- A run on the host's interface, its first step known. -/
theorem coreRun_succ (M : Host.Core) (n : Nat) (s : M.State) :
    (∀ t, M.step s = .next t → Host.Core.run M (n + 1) s = Host.Core.run M n t) ∧
    (∀ r, M.step s = .fault r → Host.Core.run M (n + 1) s = .fault r) ∧
    (∀ r, M.step s = .refused r → Host.Core.run M (n + 1) s = .refused r) := by
  refine ⟨?_, ?_, ?_⟩ <;> intro x h <;> rw [Host.Core.run, h]

/-- A run whose first step answers a next state. -/
theorem runSteps_succ_of_next {n : Nat} {s t : State} (h : step s = .next t) :
    runSteps (n + 1) s = runSteps n t :=
  (coreRun_succ core n s).1 t h

/-- A run whose first step faults. -/
theorem runSteps_succ_of_fault {n : Nat} {s : State} {r : Fault} (h : step s = .fault r) :
    runSteps (n + 1) s = .fault r :=
  (coreRun_succ core n s).2.1 r h

/-- A run whose first step is refused. -/
theorem runSteps_succ_of_refused {n : Nat} {s : State} {r : Refusal} (h : step s = .refused r) :
    runSteps (n + 1) s = .refused r :=
  (coreRun_succ core n s).2.2 r h

/-- A run of several steps, cut in two where the first part answers a next state. -/
theorem runSteps_add {m : Nat} (n : Nat) {s t : State} (h : runSteps m s = .next t) :
    runSteps (m + n) s = runSteps n t := by
  induction m generalizing s with
  | zero =>
    have hst : s = t := Host.Outcome.next.inj h
    rw [hst, Nat.zero_add]
  | succ m ih =>
    rw [Nat.succ_add]
    cases hs : step s with
    | next u =>
      rw [runSteps_succ_of_next hs] at h ⊢
      exact ih h
    | fault r => rw [runSteps_succ_of_fault hs] at h; simp at h
    | refused r => rw [runSteps_succ_of_refused hs] at h; simp at h

end Sys2Proof.Machine
end

