-- ==== Sys2Proof/Machine/Assembler.lean ====
section
/-! DEFINITION. The assembler's statements and its pseudo-instructions (`30_encoding.md` R48 and R49). Numbers are
written in decimal. -/

namespace Sys2Proof.Machine

/-- A level as the assembler writes it. -/
def levelText (l : Level) : String := if l then "1" else "0"

/-- The statement of an operation (`30_encoding.md` R48); a micro-operation's is its mnemonic, as in a listing. -/
def asmText : Instr → String
  | .txbegin pin rate => "TXBEGIN " ++ toString pin.toNat ++ ", " ++ toString rate.toNat
  | .txsend data => "TXSEND " ++ toString data.toNat
  | .rxbegin pin rate => "RXBEGIN " ++ toString pin.toNat ++ ", " ++ toString rate.toNat
  | .rxhas => "RXHAS"
  | .rxread => "RXREAD"
  | .tick level => "TICK " ++ levelText level
  | .tgl => "TGL"
  | .waith => "WAITH"
  | .waitf => "WAITF"
  | .drvlo => "DRVLO"

/-- `TICKS level, n`: n copies of TICK (`30_encoding.md` R49). -/
def asmTicks (level : Level) (n : Nat) : List Instr := List.replicate n (.tick level)

/-- `FEED d, L0`: the 552 ticks of an ideal frame (`30_encoding.md` R49). -/
def asmFeed (d : Payload) (l0 : Level) : List Instr := (idealSamples d l0).map .tick

/-- `SYM1` in a listing (`30_encoding.md` R49). -/
def asmSym1 : List Instr := sym1.map decodeMicro

/-- `SYM0` in a listing (`30_encoding.md` R49). -/
def asmSym0 : List Instr := sym0.map decodeMicro

end Sys2Proof.Machine
end

