-- ==== Sys2Proof/Tests/Slice0.lean ====
section
/-! SUPPORT. Tests against `95_test_vectors.md` and the encoding tables of `30_encoding.md`, and for every statement
with hypotheses a state and operands that meet them. -/

namespace Sys2Proof.Tests

open Sys2Proof.Machine

/-- The reset state with the core clock of the vectors, 16 MHz. -/
def demo : State := { State.reset with coreClockHz := 16000000 }

/-- A configured transmitter with full-bit count c. -/
def txDemo (c : Nat) : State :=
  { demo with txCfg := ⟨true, 3#8, BitVec.ofNat 32 c, BitVec.ofNat 32 (c / 2)⟩,
              txRun := { TxRun.reset with oe := true } }

/-- A transmitter at the start of the frame of payload 0, with these turns to come. -/
def frameDemo (c : Nat) (ts : List Turn) : State :=
  { txDemo c with txRun := { TxRun.reset with oe := true, busy := true }, turns := ts }

/-- A receiver that has been started, with this decoder. -/
def rxDemo (c : Decoder) : State := { demo with rxCfg := ⟨true, 2#8, 1#11, 2000#16, true⟩, dec := c }

/-- What a field of a next state is; none for a fault or a refusal. -/
def after {α : Type} (o : Host.Outcome State Fault Refusal) (f : State → α) : Option α :=
  match o with
  | .next t => some (f t)
  | .fault _ => none
  | .refused _ => none

/-! ## Well-formedness: each agent is refused the others' operations -/

theorem test_wf_host_may_not_tick : (Instr.tick true).wellFormedFor .host = false := by decide
theorem test_wf_host_may_not_issue_micro : Instr.tgl.wellFormedFor .host = false := by decide
theorem test_wf_tickSource_may_not_send : (Instr.txsend 1#32).wellFormedFor .tickSource = false := by decide
theorem test_wf_txSequencer_may_not_read : Instr.rxread.wellFormedFor .txSequencer = false := by decide
theorem test_wf_host_may_begin : (Instr.txbegin 3#8 0#32).wellFormedFor .host = true := by decide

/-! ## Decoding: words written out from `30_encoding.md` R42 to R46 -/

theorem test_decode_txbegin :
    decode (.cmd ⟨0b00000000#8, 3#8, 1000#32, 5#32⟩) = .instr (.txbegin 3#8 1000#32) := by decide
theorem test_decode_txsend :
    decode (.cmd ⟨0b00000001#8, 7#8, 8#32, 0x12345678#32⟩) = .instr (.txsend 0x12345678#32) := by decide
theorem test_decode_rxbegin :
    decode (.cmd ⟨0b00000010#8, 2#8, 9600#32, 5#32⟩) = .instr (.rxbegin 2#8 9600#32) := by decide
theorem test_decode_rxhas : decode (.cmd ⟨0b00000011#8, 1#8, 1#32, 1#32⟩) = .instr .rxhas := by decide
theorem test_decode_rxread : decode (.cmd ⟨0b00000100#8, 1#8, 1#32, 1#32⟩) = .instr .rxread := by decide
theorem test_decode_tick : decode (.event 0b00000101#8 true) = .instr (.tick true) := by decide
theorem test_decode_tgl : decode (.micro 0b00#2) = .instr .tgl := by decide
theorem test_decode_waith : decode (.micro 0b01#2) = .instr .waith := by decide
theorem test_decode_waitf : decode (.micro 0b10#2) = .instr .waitf := by decide
theorem test_decode_drvlo : decode (.micro 0b11#2) = .instr .drvlo := by decide
/-- Program P6: `cmd = 0x06`. -/
theorem test_decode_reserved_op : decode (.cmd ⟨0x06#8, 0#8, 0#32, 0#32⟩) = .rejected .reservedOp := by decide
/-- Program P6: `cmd = 0x0B`. -/
theorem test_decode_reserved_field : decode (.cmd ⟨0x0B#8, 0#8, 0#32, 0#32⟩) = .rejected .reservedField := by
  decide
/-- Program P6: `cmd = 0x05` on the `cmd` port. -/
theorem test_decode_tick_on_cmd : decode (.cmd ⟨0x05#8, 0#8, 0#32, 0#32⟩) = .rejected .tickOnCmdPort := by decide
theorem test_decode_other_event : decode (.event 0x04#8 true) = .rejected .notTheTickEvent := by decide
theorem test_table_rows : decodeTableWord 8 0 = some (.txbegin 0#8 0#32) ∧ decodeTableWord 8 5 = some (.tick false) ∧
    decodeTableWord 2 0 = some .tgl ∧ decodeTableWord 2 3 = some .drvlo ∧ decodeTableWord 8 6 = none := by decide

/-! ## The calculator and the frame: `95_test_vectors.md` sections 2 and 3 -/

theorem test_selectTick_strict : selectTick 524280 65535 1 = (8, 8191) ∧ selectTick 524272 65535 1 = (1, 65534) := by
  decide
theorem test_selectTick_clamps : selectTick 1000000000 65535 1 = (1024, 65535) ∧ selectTick 16000000 255 1 = (1024, 255) := by
  decide
theorem test_frame_counts : (txProgram 0x12345678#32).length = 223 ∧
    (txProgram 0x12345678#32).countP (fun u => decide (u = codeTgl)) = 109 := by decide +kernel
/-- The listing: the start marker at 124 and 125, and `d[28] = 1` at 132 to 135. -/
theorem test_frame_listing : ((txProgram 0x12345678#32).drop 124).take 12 =
    [codeTgl, codeWaitf, codeTgl, codeWaitf, codeTgl, codeWaitf, codeTgl, codeWaitf,
     codeTgl, codeWaith, codeTgl, codeWaith] := by decide +kernel
theorem test_asm_text : asmText (.txbegin 3#8 1000#32) = "TXBEGIN 3, 1000" := by decide +kernel

/-! ## One step of each operation -/

/-- Section 2: 16 MHz and 9600 bps. -/
theorem test_txbegin_count : after (exec (.txbegin 3#8 9600#32) demo)
    (fun t => (t.txCfg, t.txRun.oe)) = some (⟨true, 3#8, 416#32, 208#32⟩, true) := by decide
/-- Program P6: refused with code 2, and no register changes. -/
theorem test_txbegin_too_fast : after (exec (.txbegin 3#8 4000000#32) (txDemo 17))
    (fun t => (t.mark, t.txCfg.cyclesPerBit)) = some (some .rateTooHighTx, 17#32) := by decide
/-- Program P6: refused with code 4. -/
theorem test_txsend_before_begin : after (exec (.txsend 1#32) demo)
    (fun t => (t.mark, t.txRun.busy)) = some (some .sendBeforeBegin, false) := by decide
theorem test_txsend_latches : after (exec (.txsend 0x12345678#32) (txDemo 4000))
    (fun t => (t.txRun.word, t.txRun.upc, t.hostHold)) = some (0x12345678#32, 0#9, true) := by decide
/-- Section 2: 16 MHz and 10 bps take divider 8. -/
theorem test_rxbegin_divider : after (exec (.rxbegin 2#8 10#32) demo)
    (fun t => (t.rxCfg, t.dec.status)) = some (⟨true, 2#8, 8#11, 25000#16, true⟩, .init) := by decide
/-- Section 2: 2000001 bps is refused. -/
theorem test_rxbegin_too_fast : after (exec (.rxbegin 2#8 2000001#32) demo)
    (fun t => (t.mark, t.rxCfg.tmrEn)) = some (some .rateTooHighRx, false) := by decide
/-- Vectors A1 and A2. -/
theorem test_rxhas : after (exec .rxhas demo) State.resFlag = some (some false) ∧
    after (exec .rxhas (rxDemo ⟨.done, 0x12345678#32, 32#8, 0#8, 0#2, true⟩)) State.resFlag = some (some true) := by
  decide
/-- Vector A3. -/
theorem test_rxread : after (exec .rxread (rxDemo ⟨.done, 0x12345678#32, 32#8, 0#8, 0#2, true⟩))
    (fun t => (t.resData, t.dec, t.hostHold)) =
      some (some 0x12345678#32, ⟨.init, 0x12345678#32, 32#8, 0#8, 0#2, true⟩, false) := by decide
/-- Vector A6. -/
theorem test_rxread_holds : after (exec .rxread demo) (fun t => (t.resData, t.hostHold)) = some (none, true) := by
  decide
/-- Vectors D12 and D19: the 32nd bit. -/
theorem test_tick_last_bit :
    decoderTick false ⟨.reading, 0x091A2B3C#32, 31#8, 7#8, 0#2, true⟩ =
      ⟨.done, 0x12345678#32, 32#8, 0#8, 0#2, false⟩ ∧
    decoderTick false ⟨.reading, 0x091A2B3C#32, 31#8, 7#8, 1#2, true⟩ =
      ⟨.done, 0x12345679#32, 32#8, 0#8, 0#2, false⟩ := by decide
/-- Vectors D5, D13, D18, D21 and D25. -/
theorem test_tick_corners :
    decoderTick true ⟨.idle, 0#32, 3#8, 0#8, 0#2, false⟩ = ⟨.init, 0#32, 3#8, 1#8, 1#2, true⟩ ∧
    decoderTick false ⟨.idle, 0#32, 3#8, 2#8, 1#2, true⟩ = ⟨.init, 0#32, 3#8, 3#8, 2#2, false⟩ ∧
    decoderTick false ⟨.sync, 0#32, 255#8, 7#8, 1#2, true⟩ = ⟨.sync, 0#32, 0#8, 0#8, 0#2, false⟩ ∧
    decoderTick true ⟨.unused5, 0#32, 3#8, 6#8, 0#2, false⟩ = ⟨.init, 0#32, 4#8, 0#8, 0#2, true⟩ ∧
    decoderTick true ⟨.reading, 0#32, 3#8, 4#8, 3#2, false⟩ = ⟨.init, 0#32, 3#8, 5#8, 3#2, true⟩ := by decide
/-- Vector T1, at `tx_time` 8000 of the line trace of section 3. -/
theorem test_tgl : after (exec .tgl { txDemo 4000 with txRun := { TxRun.reset with time := 8000, level := true } })
    (fun t => (t.txRun.level, t.txRun.time, t.txTrace)) = some (false, 8000, [.drive 8000 false]) := by decide
/-- Vector T6: `c` = 17. -/
theorem test_waith : after (exec .waith (txDemo 17)) (fun t => t.txRun.time) = some 32 := by decide
/-- Vector T5: `c` = 17. -/
theorem test_waitf : after (exec .waitf (txDemo 17)) (fun t => t.txRun.time) = some 68 := by decide
/-- Vectors T2 and T3. -/
theorem test_drvlo : after (exec .drvlo { txDemo 17 with txRun := { TxRun.reset with level := true } })
      (fun t => t.txRun.level) = some false ∧
    after (exec .drvlo (txDemo 17)) (fun t => t.txRun.level) = some false := by decide
/-- `41_transmitter.md` R70: the last micro-operation ends the frame. -/
theorem test_step_last_micro : after (step { frameDemo 4 [.txSequencer] with
      txRun := { TxRun.reset with busy := true, upc := 196#9 } })
    (fun t => (t.txRun.busy, t.txRun.upc, t.txRun.time)) = some (false, 197#9, 16) := by decide +kernel
/-- Program P6: a reserved byte through a step. -/
theorem test_step_reserved : after (step { demo with turns := [.host], hostProg := [⟨0x06#8, 0#8, 0#32, 0#32⟩] })
    (fun t => t.mark) = some (some .reservedCmd) := by decide
/-- The first instruction after reset, placed by withFetchWord. -/
theorem test_first_rxhas : after (step (State.reset.withFetchWord 8 3)) State.resFlag = some (some false) := by decide
theorem test_first_waitf : after (step (State.reset.withFetchWord 2 2)) (fun t => t.txRun.upc) = some 126#9 := by
  decide +kernel

/-! ## Witnesses: for every statement with hypotheses, a state and operands that meet them -/

theorem witness_ReservedCommandIsRefused :
    ((0x06#8).toNat % 8 = 6 ∧ (0x07#8).toNat % 8 = 7 ∧ (0x0B#8).toNat / 8 ≠ 0 ∧ (0x05#8).toNat % 8 = 5) ∧
    ScheduleDecides { demo with turns := [.host] } ∧ demo.hostHold = false := by decide

theorem witness_SelectTickFindsSmallestDivider :
    (1 ≤ 1 ∧ 524280 / 8 / (1 * 8) < 65535 ∧ ¬ 524280 / 1 / (1 * 8) < 65535) ∧
    (∀ e ∈ [1, 8, 64, 256, 1024], ¬ 1000000000 / e / (1 * 8) < 65535) := by decide

theorem witness_TickRateNeverBelowEightPerBit :
    selectTick 16000000 65535 1000 = (1, 2000) ∧ 8 * 1 * 1000 ∣ 16000000 ∧
    selectTick 1000000000 65535 1 = (1024, 65535) := by decide

theorem witness_TxbeginConfiguresTransmitter :
    (0#32).toNat = 0 ∧ (1 ≤ (4000000#32).toNat ∧ demo.coreClockHz.val / 4 / (4000000#32).toNat < 2) ∧
    (1 ≤ (2000000#32).toNat ∧ 2 ≤ demo.coreClockHz.val / 4 / (2000000#32).toNat) := by decide

theorem witness_TxsendStartsFrame :
    demo.txCfg.cfgValid = false ∧ (txDemo 2).txCfg.cfgValid = true ∧
    (ScheduleDecides (frameDemo 2 [.host]) ∧ (frameDemo 2 [.host]).txRun.busy = true) := by decide

theorem witness_SequencerStepsThroughProgram :
    (ScheduleDecides { demo with turns := [.txSequencer] } ∧ demo.txRun.busy = false) ∧
    (ScheduleDecides (frameDemo 2 [.txSequencer]) ∧ (frameDemo 2 [.txSequencer]).txRun.busy = true ∧
      (txProgram (frameDemo 2 [.txSequencer]).txRun.word)[(0#9).toNat]? = some codeTgl ∧
      (txProgram 0#32)[(196#9).toNat]? = some codeWaitf) := by decide +kernel

theorem witness_FrameCountsFollowPopcount : 2 ≤ 2 ∧ 2 % 2 = 0 ∧ 2 ≤ 17 ∧ 17 % 2 ≠ 0 := by decide

/-- The turns of an interleaved frame of payload 0, less its last. -/
def interleaved : List Turn :=
  List.replicate 100 .txSequencer ++ [.host, .tickSource true] ++ List.replicate 96 .txSequencer ++ [.tickSource false]

theorem witness_FrameCompletesUnderInterleavedTurns :
    let s := { frameDemo 17 (interleaved ++ .txSequencer :: [.host]) with rxCfg := (rxDemo Decoder.reset).rxCfg }
    s.rxCfg.tmrEn = true ∧ s.mark = none ∧ s.readHeld = false ∧ s.txCfg.halfCount.toNat = s.txCfg.cyclesPerBit.toNat / 2 ∧
    2 ≤ s.txCfg.cyclesPerBit.toNat ∧ s.txRun.busy = true ∧ s.txRun.word = 0#32 ∧ s.txRun.upc = 0#9 ∧
    s.txRun.time = 0 ∧ Turn.rst ∉ interleaved ∧ interleaved.count .txSequencer + 1 = (txProgram 0#32).length := by
  decide +kernel

theorem witness_EvenFrameHasItsTimedTrace :
    let s := frameDemo 4000 (List.replicate (txProgram 0#32).length .txSequencer ++ [])
    s.mark = none ∧ s.readHeld = false ∧ s.txCfg.cyclesPerBit.toNat % 2 = 0 ∧
    s.txCfg.halfCount.toNat = s.txCfg.cyclesPerBit.toNat / 2 ∧ s.txRun.busy = true ∧ s.txRun.word = 0#32 ∧
    s.txRun.upc = 0#9 ∧ s.txRun.time = 0 := by decide +kernel

theorem witness_LineLevelBeforeGuardFollowsParity :
    let s := frameDemo 2 (List.replicate (192 + 2 * popcount 0#32) .txSequencer ++ [])
    s.mark = none ∧ s.readHeld = false ∧ s.txRun.busy = true ∧ s.txRun.word = 0#32 ∧ s.txRun.upc = 0#9 := by
  decide +kernel

theorem witness_RegistersHaveTheirWriters :
    after (exec (.txbegin 3#8 9600#32) demo) (fun t => (decide (t.txCfg ≠ demo.txCfg), decide (t.txRun.oe ≠ demo.txRun.oe)))
      = some (true, true) ∧
    after (exec (.txsend 1#32) (txDemo 2)) (fun t => decide (t.txRun.word ≠ (txDemo 2).txRun.word)) = some true ∧
    after (exec .tgl demo) (fun t => decide (t.txRun.level ≠ demo.txRun.level)) = some true ∧
    after (exec .waitf (txDemo 2)) (fun t => decide (t.txRun.time ≠ (txDemo 2).txRun.time)) = some true ∧
    after (exec (.rxbegin 2#8 10#32) demo) (fun t => decide (t.rxCfg ≠ demo.rxCfg)) = some true ∧
    after (exec (.tick true) demo) (fun t => decide (t.dec ≠ demo.dec)) = some true ∧
    after (exec .rxhas demo) (fun t => decide (t.results ≠ demo.results)) = some true := by decide

theorem witness_RxbeginStartsReceiver :
    (0#32).toNat = 0 ∧
    (1 ≤ (2000001#32).toNat ∧ (selectTick demo.coreClockHz.val 65535 (2000001#32).toNat).2 = 0) ∧
    (1 ≤ (2000000#32).toNat ∧ 1 ≤ (selectTick demo.coreClockHz.val 65535 (2000000#32).toNat).2) := by decide

theorem witness_RxbeginRefusedExactlyAboveClock :
    demo.mark = none ∧ (0#32).toNat = 0 ∧ 1 ≤ (2000001#32).toNat ∧ demo.coreClockHz.val < (2000001#32).toNat * 8 ∧
    ¬ demo.coreClockHz.val < (2000000#32).toNat * 8 := by decide

theorem witness_TickDroppedWhenDone :
    (rxDemo ⟨.done, 5#32, 32#8, 0#8, 0#2, true⟩).dec.status = .done := by decide

theorem witness_InitTickTakesBaseline : demo.dec.status = .init := by decide

theorem witness_InitTickForgetsHistory :
    (⟨.init, 5#32, 6#8, 7#8, 2#2, true⟩ : Decoder).status = .init ∧ Decoder.reset.status = .init := by decide

/-- The hypotheses that the statements about one sampled tick share: `tr` transitions before it, tick `t`. -/
abbrev Sampled (c : Decoder) (level : Level) (tr t : Nat) : Prop :=
  c.status ≠ .done ∧ c.status ≠ .init ∧ level ≠ c.previousLevel ∧ c.transitionsThisCell.toNat = tr ∧
    t = min (c.ticksSinceTransition.toNat + 1) 255

theorem witness_SilentTickOnlyCounts :
    (rxDemo ⟨.reading, 5#32, 3#8, 255#8, 0#2, false⟩).dec.status ≠ .done ∧
    (rxDemo ⟨.reading, 5#32, 3#8, 255#8, 0#2, false⟩).dec.status ≠ .init := by decide

theorem witness_TickWritesDecoderOnly :
    demo.dataReady = false ∧ (rxDemo ⟨.done, 5#32, 32#8, 0#8, 0#2, true⟩).dataReady = true := by decide

theorem witness_FirstTransitionOutOfWindowDiscards :
    Sampled ⟨.idle, 0#32, 3#8, 0#8, 0#2, false⟩ true 0 1 ∧ Sampled ⟨.sync, 0#32, 12#8, 14#8, 0#2, false⟩ true 0 15 ∧
    Sampled ⟨.reading, 0#32, 3#8, 255#8, 0#2, false⟩ true 0 255 := by decide

theorem witness_LongFirstTransitionIsZeroSymbol :
    Sampled ⟨.sync, 0#32, 40#8, 6#8, 0#2, false⟩ true 0 7 ∧ Sampled ⟨.reading, 3#32, 31#8, 13#8, 0#2, true⟩ false 0 14 ∧
    Sampled ⟨.idle, 0#32, 5#8, 6#8, 0#2, false⟩ true 0 7 := by decide

theorem witness_ShortFirstTransitionWaits :
    Sampled ⟨.idle, 0#32, 3#8, 1#8, 0#2, false⟩ true 0 2 ∧ Sampled ⟨.reading, 3#32, 2#8, 5#8, 0#2, true⟩ false 0 6 := by
  decide

theorem witness_SecondTransitionOutOfWindowDiscards :
    Sampled ⟨.idle, 0#32, 3#8, 2#8, 1#2, true⟩ false 1 3 ∧ Sampled ⟨.sync, 0#32, 9#8, 14#8, 1#2, true⟩ false 1 15 := by
  decide

theorem witness_SecondTransitionIsOneSymbol :
    Sampled ⟨.idle, 0#32, 7#8, 3#8, 1#2, true⟩ false 1 4 ∧ Sampled ⟨.sync, 0#32, 9#8, 13#8, 1#2, true⟩ false 1 14 ∧
    Sampled ⟨.reading, 1#32, 31#8, 7#8, 1#2, false⟩ true 1 8 ∧ Sampled ⟨.unused6, 0#32, 3#8, 7#8, 1#2, true⟩ false 1 8 := by
  decide

theorem witness_ThirdTransitionDiscards :
    Sampled ⟨.reading, 0#32, 3#8, 4#8, 2#2, false⟩ true 2 5 ∧ Sampled ⟨.reading, 0#32, 3#8, 4#8, 3#2, false⟩ true 3 5 := by
  decide

theorem witness_SilentLineOnlyCounts :
    (⟨.reading, 5#32, 3#8, 0#8, 1#2, false⟩ : Decoder).status ≠ .done ∧
    (⟨.reading, 5#32, 3#8, 0#8, 1#2, false⟩ : Decoder).status ≠ .init ∧ 14 ≤ 14 := by decide

/-- The three kinds of start state, each at the edge of its range. -/
theorem witness_IdealFrameRoundTrip :
    Acquirable (rxDemo ⟨.init, 7#32, 7#8, 7#8, 2#2, true⟩).dec false ∧
    Acquirable (rxDemo ⟨.reading, 7#32, 7#8, 14#8, 1#2, true⟩).dec true ∧
    Acquirable (rxDemo ⟨.idle, 0#32, 3#8, 0#8, 0#2, false⟩).dec false ∧
    Acquirable (rxDemo ⟨.idle, 0#32, 3#8, 6#8, 0#2, false⟩).dec false := by decide

theorem witness_MachineReceivesIdealFrame :
    let s := { rxDemo ⟨.idle, 0#32, 0#8, 14#8, 0#2, false⟩ with
      turns := (idealSamples 0x12345678#32 false).map Turn.tickSource ++ [Turn.host] }
    s.mark = none ∧ s.readHeld = false ∧ s.rxCfg.tmrEn = true ∧ Acquirable s.dec false := by decide +kernel

/-- Cells of payload 0xFFFF0000 at the edges of their windows. -/
def edgeCells : List Cell :=
  List.replicate 8 ⟨true, 2, 4⟩ ++ List.replicate 8 ⟨true, 6, 14⟩ ++ List.replicate 8 ⟨false, 0, 7⟩ ++
    List.replicate 8 ⟨false, 0, 14⟩

theorem witness_PayloadDecodesInsideRateWindow :
    edgeCells.map Cell.bit = payloadBits 0xFFFF0000#32 ∧ (∀ k ∈ edgeCells, k.inWindow) ∧
    (⟨.reading, 9#32, 0#8, 0#8, 0#2, true⟩ : Decoder).status = .reading := by decide +kernel

theorem witness_PreambleOfEightLocks :
    Acquirable ⟨.sync, 0#32, 9#8, 14#8, 1#2, true⟩ true ∧ 8 ≤ 8 ∧ 7 ≤ 7 ∧ 1 ≤ 1 := by decide

theorem witness_MisalignedAcquisitionSyncsEarly :
    let c : Decoder := ⟨.idle, 0#32, 0#8, 1#8, 0#2, true⟩
    let e : Decoder := ⟨.idle, 0#32, 0#8, 5#8, 0#2, true⟩
    (c.status = .idle ∧ c.previousLevel = true ∧ c.transitionsThisCell = 0#2 ∧ c.bitsReceived = 0#8 ∧
      1 ≤ c.ticksSinceTransition.toNat ∧ c.ticksSinceTransition.toNat ≤ 5) ∧
    (1 ≤ e.ticksSinceTransition.toNat ∧ e.ticksSinceTransition.toNat ≤ 5) := by decide

theorem witness_ReadWindowKeepsNextFrame :
    Acquirable (rxDemo Decoder.reset).dec true ∧ (513 ≤ 513 ∧ 513 ≤ 545) ∧ (513 ≤ 545 ∧ 545 ≤ 545) := by decide

theorem witness_AcquisitionInsidePreamble :
    Decoder.reset.status = .init ∧ (1 ≤ 1 ∧ 3 ≤ 3) ∧ (8 ≤ 8 ∧ 8 % 8 ≤ 3) ∧ (187 ≤ 187 ∧ 187 % 8 ≤ 3) := by decide

theorem witness_TimedLineGivesIdealSamples :
    4000 % 2 = 0 ∧ 4000 * 4 = 8 * 2000 ∧ (0 : ℚ) < 1 / 2 ∧ (1 / 2 : ℚ) < ((2000 : Nat) : ℚ) ∧ 1 ≤ 552 := by norm_num

theorem witness_RxreadReturnsHeldWord :
    (rxDemo ⟨.done, 5#32, 32#8, 0#8, 0#2, true⟩).dec.status = .done := by decide

theorem witness_RxreadHoldsUntilDone :
    let s := { rxDemo Decoder.reset with readHeld := true, turns := [.host] }
    let t := { rxDemo Decoder.reset with readHeld := true, turns := [.tickSource true] }
    s.dec.status ≠ .done ∧ s.mark = none ∧ s.readHeld = true ∧ t.dec.status ≠ .done ∧ t.rxCfg.tmrEn = true := by
  decide

theorem witness_HeldReadTakenAtDone :
    let s := { rxDemo ⟨.done, 5#32, 32#8, 0#8, 0#2, true⟩ with readHeld := true, turns := [.tickSource true] }
    s.mark = none ∧ s.readHeld = true ∧ s.dec.status = .done := by decide

theorem witness_PolledReadReturnsTheHeldWord :
    let s := { rxDemo ⟨.done, 5#32, 32#8, 0#8, 0#2, true⟩ with
      hostProg := [⟨0x04#8, 0#8, 0#32, 0#32⟩], turns := [true, false].map .tickSource ++ .host :: [] }
    s.mark = none ∧ s.hostHold = false ∧
    exec .rxhas s = .next { s with results := s.results ++ [.flag true] } := ⟨by decide, by decide, rfl⟩

theorem witness_StepRunsDecodedOperation :
    (ScheduleDecides { demo with turns := [.host], hostProg := [⟨0x03#8, 0#8, 0#32, 0#32⟩] } ∧
      demo.hostHold = false ∧ decode (.cmd ⟨0x03#8, 0#8, 0#32, 0#32⟩) = .instr .rxhas) ∧
    (ScheduleDecides { rxDemo Decoder.reset with turns := [.tickSource true] } ∧
      decode (.event 0x05#8 true) = .instr (.tick true)) ∧
    (ScheduleDecides (frameDemo 2 [.txSequencer]) ∧
      (txProgram (frameDemo 2 []).txRun.word)[(frameDemo 2 []).txRun.upc.toNat]? = some codeTgl ∧
      decode (.micro codeTgl) = .instr .tgl) := by decide +kernel

theorem witness_AgentsWithNoStepLetTheirTurnPass :
    (ScheduleDecides { demo with turns := [.tickSource true] } ∧ demo.rxCfg.tmrEn = false) ∧
    (ScheduleDecides (frameDemo 2 [.host]) ∧ (frameDemo 2 [.host]).hostHold = true) ∧
    (ScheduleDecides { demo with turns := [.host] } ∧ demo.hostProg = []) ∧
    (ScheduleDecides { demo with turns := [.txSequencer] } ∧ demo.txRun.busy = false) := by decide

theorem witness_MarkedStateTakesNoStep : (demo.refuse .rateZero).mark = some .rateZero := by decide

theorem witness_PowerOnResetRestoresRegisters :
    ScheduleDecides (frameDemo 2 [.rst, .host]) ∧ (frameDemo 2 [.rst, .host]).turns = .rst :: [.host] := by decide

/-- A started receiver meets the invariant, and its next step is a TICK. -/
theorem witness_StepKeepsInvariant :
    Inv { rxDemo Decoder.reset with turns := [.tickSource true] } ∧
    ∃ t, step { rxDemo Decoder.reset with turns := [.tickSource true] } = .next t :=
  ⟨{ clock := by decide, txConfigured := by decide, txUnconfigured := by decide, txDriven := by decide,
     txBusy := by decide, txIdle := by decide, rxDivider := by decide, rxReload := by decide,
     rxEnabled := by decide, rxUnconfigured := by decide,
     decoder := ⟨by decide, by decide, by decide, by decide, by decide, by decide, by decide, by decide⟩ },
   ⟨_, rfl⟩⟩

/-- A frame being sent meets the invariant too. -/
theorem witness_LegalStatesNeverFault : Inv (frameDemo 2 [.txSequencer]) :=
  { clock := by decide, txConfigured := by decide, txUnconfigured := by decide, txDriven := by decide,
    txBusy := by decide +kernel, txIdle := by decide, rxDivider := by decide, rxReload := by decide,
    rxEnabled := by decide, rxUnconfigured := by decide,
    decoder := ⟨by decide, by decide, by decide, by decide, by decide, by decide, by decide, by decide⟩ }

theorem witness_OnlyResetStopsTheTickSource :
    after (step { rxDemo Decoder.reset with turns := [.rst] }) (fun t => t.rxCfg.tmrEn) = some false ∧
    (rxDemo Decoder.reset).rxCfg.tmrEn = true := by decide

theorem witness_TransmitterAndReceiverShareNoState :
    (∃ a' b', exec (.tick true) (rxDemo Decoder.reset) = .next a' ∧
      exec (.tick true) { rxDemo Decoder.reset with txCfg := (txDemo 2).txCfg } = .next b') ∧
    (rxDemo Decoder.reset).coreClockHz = (txDemo 2).coreClockHz := ⟨⟨_, _, rfl, rfl⟩, by decide⟩

theorem witness_ReadBeforeBeginHoldsForEver :
    let s := { demo with readHeld := true, turns := [.host, .tickSource true, .txSequencer] }
    s.mark = none ∧ s.readHeld = true ∧ s.rxCfg.tmrEn = false ∧ s.txRun.busy = false ∧ s.dec.status = .init ∧
    Turn.rst ∉ s.turns := by decide

end Sys2Proof.Tests
end

section
/-! PROOFS. The step of each agent on its own turn (`00_scope.md` R6 and R7): which operation runs, and in which
state. -/

namespace Sys2Proof.Machine

/-- The turn of a free host with a command that decodes: the command leaves the port and runs. -/
theorem step_host_of_decode {s : State} {ts : List Turn} {p : CmdPort} {rest : List CmdPort} {i : Instr}
    (hs : ScheduleDecides s) (ht : s.turns = .host :: ts) (hh : s.hostHold = false) (hp : s.hostProg = p :: rest)
    (hd : decode (.cmd p) = .instr i) : step s = exec i ((s.withTurns ts).withHostProg rest) := by
  have hfree : (s.withTurns ts).hostHold = false := hh
  have hfetch : s.fetch = .operation i ((s.withTurns ts).withHostProg rest) := by
    obtain ⟨hmark, hread⟩ := hs
    rw [State.fetch_of_turn hmark hread ht]
    simp [fetchTurn, hfree, fetchCommand, hp, hd]
  simp only [step, hfetch]

/-- The turn of a running tick source: TICK runs with the level on `rx_line`. -/
theorem step_tickSource_of_enabled {s : State} {ts : List Turn} {level : Level}
    (hs : ScheduleDecides s) (ht : s.turns = .tickSource level :: ts) (he : s.rxCfg.tmrEn = true) :
    step s = exec (.tick level) (s.withTurns ts) := by
  have hfetch : s.fetch = .operation (.tick level) (s.withTurns ts) := by
    obtain ⟨hmark, hread⟩ := hs
    rw [State.fetch_of_turn hmark hread ht]
    simp [fetchTurn, he, fetchTick, decode, decodeEvent]
  simp only [step, hfetch]

/-- The turn of a busy sequencer inside its program: the micro-operation runs, and the sequencer moves on. -/
theorem step_txSequencer_of_busy {s : State} {ts : List Turn} {u : MicroCode}
    (hs : ScheduleDecides s) (ht : s.turns = .txSequencer :: ts) (hb : s.txRun.busy = true)
    (hu : s.microAt = some u) : step s = thenAdvance (exec (decodeMicro u) (s.withTurns ts)) := by
  have hcode : (s.withTurns ts).microAt = some u := hu
  have hfetch : s.fetch = .microOp (decodeMicro u) (s.withTurns ts) := by
    obtain ⟨hmark, hread⟩ := hs
    rw [State.fetch_of_turn hmark hread ht]
    simp [fetchTurn, hb, fetchMicro, hcode]
  simp only [step, hfetch]

/-- Event code 0x05 stands for TICK with the line's level and for nothing else. -/
theorem decode_tickEvent_eq_instr_iff {level : Level} {i : Instr} :
    decode (.event 0x05#8 level) = .instr i ↔ i = .tick level := by
  simp [decode, decodeEvent, codeTick, eq_comm]

/-- A micro-operation code stands for the operation that `decodeMicro` names. -/
theorem decode_micro_eq_instr_iff {u : MicroCode} {i : Instr} :
    decode (.micro u) = .instr i ↔ i = decodeMicro u := by
  simp [decode, eq_comm]

/-- No micro-operation faults or is refused (`41_transmitter.md` R75 to R78). -/
theorem exec_decodeMicro_next (u : MicroCode) (s : State) : ∃ m, exec (decodeMicro u) s = .next m := by
  unfold decodeMicro
  split_ifs <;> exact ⟨_, rfl⟩

/-- Settles O47: one step lemma per agent, and what the agent's signal decodes to. -/
theorem stepRunsDecodedOperation : Obligations.StepRunsDecodedOperation := by
  unfold Obligations.StepRunsDecodedOperation
  intro s ts hs
  refine ⟨?host, ?tick, ?micro⟩
  case host =>
    intro p rest i ht hh hp hd
    exact step_host_of_decode hs ht hh hp hd
  case tick =>
    intro level i ht he hd
    obtain rfl := decode_tickEvent_eq_instr_iff.mp hd
    exact step_tickSource_of_enabled hs ht he
  case micro =>
    intro u i ht hb hu hd
    obtain rfl := decode_micro_eq_instr_iff.mp hd
    obtain ⟨m, hm⟩ := exec_decodeMicro_next u (s.withTurns ts)
    have hstep : step s = thenAdvance (exec (decodeMicro u) (s.withTurns ts)) :=
      step_txSequencer_of_busy hs ht hb hu
    rw [hm] at hstep
    exact ⟨m, hm, hstep⟩

end Sys2Proof.Machine
end

section
/-! PROOFS. What each operation's own effect answers, by its cases, and from that the writers of each register
(`10_state.md` R13 to R15 and R25). -/

namespace Sys2Proof.Machine

/-- The transmitter configuration that an accepted TXBEGIN writes (`41_transmitter.md` R68). -/
def txConfigOf (clock : Nat) (pin : PinId) (rate : Rate) : TxConfig :=
  { cfgValid := true, pin := pin, cyclesPerBit := BitVec.ofNat 32 (cyclesPerBit clock rate.toNat),
    halfCount := BitVec.ofNat 32 (halfCount (cyclesPerBit clock rate.toNat)) }

/-- The receiver configuration that an accepted RXBEGIN writes (`42_receiver_config.md` R84). -/
def rxConfigOf (clock : Nat) (pin : PinId) (rate : Rate) : RxConfig :=
  { cfgValid := true, pin := pin, divider := BitVec.ofNat 11 (selectTick clock timerMax rate.toNat).1,
    reload := BitVec.ofNat 16 (selectTick clock timerMax rate.toNat).2, tmrEn := true }

section Cases

variable {s t : State}

/-- TXBEGIN is refused, or configures the transmitter and drives the line. -/
theorem exec_txbegin_cases {pin : PinId} {rate : Rate} (h : exec (.txbegin pin rate) s = .next t) :
    (∃ r, t = s.refuse r) ∨
    (txRateRefusal s.coreClockHz.val rate.toNat = none ∧
      t = ((s.withTxCfg (txConfigOf s.coreClockHz.val pin rate)).withTxRun
        { s.txRun with oe := true, level := Config.txInitLevel s.draws }).nextDraw) := by
  cases hr : txRateRefusal s.coreClockHz.val rate.toNat with
  | some r => exact .inl ⟨r, by simpa [exec, execTxbegin, hr, txConfigOf] using h.symm⟩
  | none => exact .inr ⟨rfl, by simpa [exec, execTxbegin, hr, txConfigOf] using h.symm⟩

/-- TXSEND is refused, or starts a frame. -/
theorem exec_txsend_cases {data : Payload} (h : exec (.txsend data) s = .next t) :
    (∃ r, t = s.refuse r) ∨
    (s.txCfg.cfgValid = true ∧
      t = (s.withTxRun { s.txRun with word := data, upc := 0#9, time := 0, busy := true }).pushTrace
        (.frameStart s.txRun.level)) := by
  cases hv : s.txCfg.cfgValid with
  | false => exact .inl ⟨.sendBeforeBegin, by simpa [exec, execTxsend, hv] using h.symm⟩
  | true => exact .inr ⟨rfl, by simpa [exec, execTxsend, hv] using h.symm⟩

/-- RXBEGIN is refused, or configures the receiver and restarts the decoder. -/
theorem exec_rxbegin_cases {pin : PinId} {rate : Rate} (h : exec (.rxbegin pin rate) s = .next t) :
    (∃ r, t = s.refuse r) ∨
    (rxRateRefusal s.coreClockHz.val rate.toNat = none ∧
      t = (s.withRxCfg (rxConfigOf s.coreClockHz.val pin rate)).withDec Decoder.reset) := by
  cases hr : rxRateRefusal s.coreClockHz.val rate.toNat with
  | some r => exact .inl ⟨r, by simpa [exec, execRxbegin, hr, rxConfigOf] using h.symm⟩
  | none => exact .inr ⟨rfl, by simpa [exec, execRxbegin, hr, rxConfigOf] using h.symm⟩

/-- RXREAD takes the word that is there, or holds the host. -/
theorem exec_rxread_cases (h : exec .rxread s = .next t) :
    (s.dec.status = .done ∧
      t = ((s.withDec { s.dec with status := .init }).withReadHeld false).pushResult (.data s.dec.shiftRegister)) ∨
    (s.dec.status ≠ .done ∧ t = s.withReadHeld true) := by
  by_cases hd : s.dec.status = .done
  · exact .inl ⟨hd, by simpa [exec, execRxread, dataReady, hd] using h.symm⟩
  · exact .inr ⟨hd, by simpa [exec, execRxread, dataReady, hd] using h.symm⟩

/-- RXHAS adds a result. -/
theorem eq_of_exec_rxhas (h : exec .rxhas s = .next t) : t = s.pushResult (.flag (dataReady s.dec)) :=
  (Host.Outcome.next.inj h).symm

/-- TICK runs the decoder. -/
theorem eq_of_exec_tick {level : Level} (h : exec (.tick level) s = .next t) :
    t = s.withDec (decoderTick level s.dec) :=
  (Host.Outcome.next.inj h).symm

/-- TGL drives the line at the other level. -/
theorem eq_of_exec_tgl (h : exec .tgl s = .next t) : t = s.driveLine (!s.txRun.level) :=
  (Host.Outcome.next.inj h).symm

/-- WAITH lets half a bit period pass. -/
theorem eq_of_exec_waith (h : exec .waith s = .next t) :
    t = s.waitCycles (s.txCfg.halfCount.toNat * cyclesPerCount) :=
  (Host.Outcome.next.inj h).symm

/-- WAITF lets a full bit period pass. -/
theorem eq_of_exec_waitf (h : exec .waitf s = .next t) :
    t = s.waitCycles (s.txCfg.cyclesPerBit.toNat * cyclesPerCount) :=
  (Host.Outcome.next.inj h).symm

/-- DRVLO drives the line low. -/
theorem eq_of_exec_drvlo (h : exec .drvlo s = .next t) : t = s.driveLine false :=
  (Host.Outcome.next.inj h).symm

end Cases

/-- Settles O18: one case per operation, each by what the operation answers and the fields its writes leave alone. -/
theorem registersHaveTheirWriters : Obligations.RegistersHaveTheirWriters := by
  unfold Obligations.RegistersHaveTheirWriters
  intro i s t h
  cases i with
  | txbegin pin rate => obtain ⟨r, rfl⟩ | ⟨-, rfl⟩ := exec_txbegin_cases h <;> simp
  | txsend data => obtain ⟨r, rfl⟩ | ⟨-, rfl⟩ := exec_txsend_cases h <;> simp
  | rxbegin pin rate => obtain ⟨r, rfl⟩ | ⟨-, rfl⟩ := exec_rxbegin_cases h <;> simp
  | rxhas => obtain rfl := eq_of_exec_rxhas h; simp
  | rxread => obtain ⟨-, rfl⟩ | ⟨-, rfl⟩ := exec_rxread_cases h <;> simp
  | tick level => obtain rfl := eq_of_exec_tick h; simp
  | tgl => obtain rfl := eq_of_exec_tgl h; simp
  | waith => obtain rfl := eq_of_exec_waith h; simp
  | waitf => obtain rfl := eq_of_exec_waitf h; simp
  | drvlo => obtain rfl := eq_of_exec_drvlo h; simp

end Sys2Proof.Machine
end

section
/-! PROOFS. The decoder's invariant (`43_decoder.md` R96 and R97) in two parts, the frame's and the open cell's, and
every tick keeps it. -/

namespace Sys2Proof.Machine

/-- What the decoder's status says of the bits received (`43_decoder.md` R97). -/
structure FrameLaws (status : Status) (bits : BitVec 8) (shift : BitVec 32) : Prop where
  legal : status ≠ .unused5 ∧ status ≠ .unused6 ∧ status ≠ .unused7
  idle : status = .idle → bits.toNat < 8 ∧ shift = 0#32
  sync : status = .sync → shift = 0#32
  reading : status = .reading → bits.toNat < 32 ∧ shift.toNat < 2 ^ bits.toNat
  done : status = .done → bits = 32#8

/-- What the decoder's status says of the open cell (`43_decoder.md` R96). -/
structure CellLaws (status : Status) (ticks : BitVec 8) (transitions : BitVec 2) : Prop where
  few : transitions.toNat ≤ 2
  openCell : status ≠ .init → transitions.toNat ≤ 1
  midCell : status ≠ .init → transitions = 1#2 → 2 ≤ ticks.toNat
  done : status = .done → ticks = 0#8 ∧ transitions = 0#2

/-- The decoder's invariant is the frame's laws with the cell's. -/
theorem decoderInv_iff {c : Decoder} : DecoderInv c ↔
    FrameLaws c.status c.bitsReceived c.shiftRegister ∧
    CellLaws c.status c.ticksSinceTransition c.transitionsThisCell := by
  constructor
  · intro h
    exact ⟨⟨h.legalStatus, h.idle, h.sync, h.reading, fun hd => (h.done hd).1⟩,
      ⟨h.fewTransitions, h.openCell, h.midCell, fun hd => (h.done hd).2⟩⟩
  · rintro ⟨hf, hc⟩
    exact ⟨hf.legal, hc.few, hc.openCell, hc.midCell, hf.idle, hf.sync, hf.reading,
      fun hd => ⟨hf.done hd, hc.done hd⟩⟩

/-- In INIT every count of bits and every shift register is legal. -/
theorem FrameLaws.of_init (bits : BitVec 8) (shift : BitVec 32) : FrameLaws .init bits shift :=
  ⟨by decide, nofun, nofun, nofun, nofun⟩

/-- IDLE: fewer than 8 preamble bits, and no payload. -/
theorem FrameLaws.of_idle {bits : BitVec 8} {shift : BitVec 32} (hbits : bits.toNat < 8) (hshift : shift = 0#32) :
    FrameLaws .idle bits shift :=
  ⟨by decide, fun _ => ⟨hbits, hshift⟩, nofun, nofun, nofun⟩

/-- SYNC: no payload yet. -/
theorem FrameLaws.of_sync (bits : BitVec 8) {shift : BitVec 32} (hshift : shift = 0#32) :
    FrameLaws .sync bits shift :=
  ⟨by decide, nofun, fun _ => hshift, nofun, nofun⟩

/-- READING: fewer than 32 payload bits, and none above those received. -/
theorem FrameLaws.of_reading {bits : BitVec 8} {shift : BitVec 32} (hbits : bits.toNat < 32)
    (hshift : shift.toNat < 2 ^ bits.toNat) : FrameLaws .reading bits shift :=
  ⟨by decide, nofun, nofun, fun _ => ⟨hbits, hshift⟩, nofun⟩

/-- DONE: all 32 payload bits, whatever they are. -/
theorem FrameLaws.of_done {bits : BitVec 8} (shift : BitVec 32) (hbits : bits = 32#8) :
    FrameLaws .done bits shift :=
  ⟨by decide, nofun, nofun, nofun, fun _ => hbits⟩

/-- In INIT up to two transitions are legal. -/
theorem CellLaws.of_init (ticks : BitVec 8) {transitions : BitVec 2} (h : transitions.toNat ≤ 2) :
    CellLaws .init ticks transitions :=
  ⟨h, fun hn => absurd rfl hn, fun hn => absurd rfl hn, nofun⟩

/-- A cell that has just started is legal in every status. -/
theorem CellLaws.of_start (status : Status) : CellLaws status 0#8 0#2 :=
  ⟨by decide, fun _ => by decide, fun _ h => absurd h (by decide), fun _ => ⟨rfl, rfl⟩⟩

/-- The decoder's start values meet its invariant. -/
theorem decoderInv_reset : DecoderInv Decoder.reset :=
  decoderInv_iff.mpr ⟨.of_init _ _, .of_start _⟩

/-- INIT forgets the frame: any decoder put there with at most two transitions in the cell meets the invariant. -/
theorem discardFrame_inv {c : Decoder} (h : c.transitionsThisCell.toNat ≤ 2) : DecoderInv (discardFrame c) :=
  decoderInv_iff.mpr ⟨.of_init _ _, .of_init _ h⟩

/-- The INIT tick enters IDLE with nothing received. -/
theorem initTick_inv (level : Level) : DecoderInv (initTick level) :=
  decoderInv_iff.mpr ⟨.of_idle (bits := 0#8) (by decide) rfl, .of_start _⟩

/-- The end of a cell counts one more bit; below 255 the count does not wrap. -/
theorem endCell_bits_toNat {c : Decoder} (h : c.bitsReceived.toNat < 255) :
    (endCell c).bitsReceived.toNat = c.bitsReceived.toNat + 1 := by
  have hw := wrapInc_toNat c.bitsReceived
  simp only [endCell]
  omega

/-- A bit shifted in adds one bit at most to the shift register's value. -/
theorem shiftIn_lt {v : BitVec 32} {n : Nat} (b : Bool) (h : v.toNat < 2 ^ n) :
    (shiftIn v b).toNat < 2 ^ (n + 1) := by
  have hb := Bool.toNat_le b
  rw [shiftIn_eq_ofNat, BitVec.toNat_ofNat]
  refine lt_of_le_of_lt (Nat.mod_le _ _) ?_
  rw [Nat.pow_succ]
  omega

/-- A payload bit keeps the invariant: the 32nd one ends the frame, and one before it is still READING. -/
theorem appendBit_endCell_inv {c : Decoder} (b : Bool) (hs : c.status = .reading)
    (hn : c.bitsReceived.toNat < 32) (hv : c.shiftRegister.toNat < 2 ^ c.bitsReceived.toNat) :
    DecoderInv (appendBit b (endCell c)) := by
  have hbits := endCell_bits_toNat (c := c) (by omega)
  refine decoderInv_iff.mpr ⟨?_, .of_start _⟩
  by_cases hlast : dataW ≤ (endCell c).bitsReceived.toNat
  · have hdone : (endCell c).bitsReceived = 32#8 := by
      apply BitVec.eq_of_toNat_eq
      simp only [dataW] at hlast
      simp only [BitVec.toNat_ofNat]
      omega
    have hstatus : (appendBit b (endCell c)).status = .done := if_pos hlast
    rw [hstatus]
    exact .of_done _ hdone
  · have hstatus : (appendBit b (endCell c)).status = .reading := (if_neg hlast).trans hs
    rw [hstatus]
    refine .of_reading (Nat.lt_of_not_le hlast) ?_
    change (shiftIn c.shiftRegister b).toNat < 2 ^ (endCell c).bitsReceived.toNat
    rw [hbits]
    exact shiftIn_lt b hv

/-- A "0" symbol keeps the invariant: it opens the payload, is a payload bit, or discards the frame. -/
theorem zeroSymbol_inv {c : Decoder} (h : FrameLaws c.status c.bitsReceived c.shiftRegister) :
    DecoderInv (zeroSymbol c) := by
  have hdiscard : DecoderInv (discardFrame (endCell c)) := discardFrame_inv (CellLaws.of_start .init).few
  unfold zeroSymbol
  split
  · next hs =>
    have hshift : (endCell c).shiftRegister = 0#32 := h.sync hs
    exact decoderInv_iff.mpr ⟨.of_reading (bits := 0#8) (by decide) (by simp [hshift]), .of_start _⟩
  · next hs =>
    obtain ⟨hn, hv⟩ := h.reading hs
    exact appendBit_endCell_inv false hs hn hv
  · exact hdiscard

/-- A "1" symbol keeps the invariant: it is a preamble bit, a payload bit, or discards the frame. -/
theorem oneSymbol_inv {c : Decoder} (h : FrameLaws c.status c.bitsReceived c.shiftRegister) :
    DecoderInv (oneSymbol c) := by
  have hdiscard : DecoderInv (discardFrame (endCell c)) := discardFrame_inv (CellLaws.of_start .init).few
  unfold oneSymbol
  split
  · next hs =>
    have hshift : (endCell c).shiftRegister = 0#32 := (h.idle hs).2
    refine decoderInv_iff.mpr ⟨?_, .of_start _⟩
    change FrameLaws (if preambleMin ≤ (endCell c).bitsReceived.toNat then .sync else .idle)
      (endCell c).bitsReceived (endCell c).shiftRegister
    split
    · exact .of_sync _ hshift
    · next hfew => exact .of_idle (Nat.lt_of_not_le hfew) hshift
  · next hs =>
    have hshift : (endCell c).shiftRegister = 0#32 := h.sync hs
    have hsync : (endCell c).status = .sync := hs
    refine decoderInv_iff.mpr ⟨?_, .of_start _⟩
    rw [hsync]
    exact .of_sync _ hshift
  · next hs =>
    obtain ⟨hn, hv⟩ := h.reading hs
    exact appendBit_endCell_inv true hs hn hv
  · exact hdiscard

/-- The first transition of a cell keeps the invariant; a short one leaves the cell open past its second tick. -/
theorem firstTransition_inv {c : Decoder} (h : FrameLaws c.status c.bitsReceived c.shiftRegister)
    (hdone : c.status ≠ .done) (hone : c.transitionsThisCell = 1#2) : DecoderInv (firstTransition c) := by
  have hcount : c.transitionsThisCell.toNat = 1 := by simp [hone]
  rcases firstTransition_cases c with ⟨-, he⟩ | ⟨-, -, he⟩ | ⟨hticks, -, he⟩ <;> rw [he]
  · exact discardFrame_inv (by omega)
  · exact zeroSymbol_inv h
  · exact decoderInv_iff.mpr
      ⟨h, ⟨by omega, fun _ => by omega, fun _ _ => hticks, fun hd => absurd hd hdone⟩⟩

/-- The second transition of a cell keeps the invariant: the cell ends or the frame is discarded. -/
theorem secondTransition_inv {c : Decoder} (h : FrameLaws c.status c.bitsReceived c.shiftRegister)
    (htwo : c.transitionsThisCell = 2#2) : DecoderInv (secondTransition c) := by
  rcases secondTransition_cases c with ⟨-, he⟩ | ⟨-, -, he⟩ <;> rw [he]
  · exact discardFrame_inv (by simp [htwo])
  · exact oneSymbol_inv h

/-- A transition keeps the invariant; by R96 it is the first or the second of its cell. -/
theorem onTransition_inv {c : Decoder} (h : FrameLaws c.status c.bitsReceived c.shiftRegister)
    (hdone : c.status ≠ .done) (hfew : c.transitionsThisCell.toNat ≤ 1) : DecoderInv (onTransition c) := by
  rcases onTransition_cases c with ⟨-, he⟩ | ⟨-, he⟩ | ⟨hmany, -⟩
  · rw [he]; exact firstTransition_inv h hdone rfl
  · rw [he]; exact secondTransition_inv h rfl
  · omega

/-- A tick without a transition keeps the invariant: the count of ticks only grows. -/
theorem sampleLine_silent_inv {c : Decoder} (h : DecoderInv c) (hdone : c.status ≠ .done) :
    DecoderInv { c with ticksSinceTransition := satInc c.ticksSinceTransition } := by
  obtain ⟨hframe, hcell⟩ := decoderInv_iff.mp h
  refine decoderInv_iff.mpr ⟨hframe, hcell.few, hcell.openCell, fun hinit hone => ?_, fun hd => absurd hd hdone⟩
  have hticks := hcell.midCell hinit hone
  have hsat := satInc_toNat c.ticksSinceTransition
  change 2 ≤ (satInc c.ticksSinceTransition).toNat
  omega

/-- Every tick keeps the decoder's invariant. -/
theorem decoderTick_inv (level : Level) {c : Decoder} (h : DecoderInv c) : DecoderInv (decoderTick level c) := by
  rcases decoderTick_cases level c with ⟨-, he⟩ | ⟨-, he⟩ | ⟨hdone, hinit, he⟩ <;> rw [he]
  · exact h
  · exact initTick_inv level
  · by_cases hl : level = c.previousLevel
    · rw [hl, sampleLine_silent]
      exact sampleLine_silent_inv h hdone
    · obtain ⟨hframe, hcell⟩ := decoderInv_iff.mp h
      rw [sampleLine_transition hl]
      exact onTransition_inv hframe hdone (hcell.openCell hinit)

end Sys2Proof.Machine
end

section
/-! PROOFS. The two calculators and the frame's program, as far as the registers' legal values need them. -/

namespace Sys2Proof.Machine

/-- TXBEGIN is accepted exactly when the rate is not 0 and its full-bit count is at least 2
(`40_timing_constants.md` R59). -/
theorem txRateRefusal_eq_none_iff {clock rate : Nat} :
    txRateRefusal clock rate = none ↔ rate ≠ 0 ∧ 2 ≤ cyclesPerBit clock rate := by
  by_cases h0 : rate = 0
  · simp [txRateRefusal, h0]
  · simp [txRateRefusal, h0, Nat.lt_iff_add_one_le]

/-- RXBEGIN is accepted exactly when the rate is not 0 and its reload is not 0 (`40_timing_constants.md` R63). -/
theorem rxRateRefusal_eq_none_iff {clock rate : Nat} :
    rxRateRefusal clock rate = none ↔ rate ≠ 0 ∧ (selectTick clock timerMax rate).2 ≠ 0 := by
  by_cases h0 : rate = 0
  · simp [rxRateRefusal, h0]
  · simp [rxRateRefusal, h0]

/-- The divider that the search answers is one of the five (`40_timing_constants.md` R60). -/
theorem selectTick_divider_mem (clock limit rate : Nat) : (selectTick clock limit rate).1 ∈ dividers := by
  unfold selectTick
  rcases searchDivider_cases clock limit (rate * oversampling) dividers with
    ⟨pre, d, post, hds, -, -, he⟩ | ⟨-, he⟩ <;> rw [he]
  · rw [hds]; simp
  · simp [dividers]

/-- The reload that the search answers fits the timer (`40_timing_constants.md` R61 and R62). -/
theorem selectTick_reload_le (clock limit rate : Nat) : (selectTick clock limit rate).2 ≤ limit := by
  unfold selectTick
  rcases searchDivider_cases clock limit (rate * oversampling) dividers with
    ⟨pre, d, post, -, hfit, -, he⟩ | ⟨-, he⟩ <;> rw [he]
  exact hfit.le

/-- No full-bit count exceeds the clock rate (`40_timing_constants.md` R57). -/
theorem cyclesPerBit_le (clock rate : Nat) : cyclesPerBit clock rate ≤ clock :=
  (Nat.div_le_self _ _).trans (Nat.div_le_self _ _)

/-- A symbol is four micro-operations for a "1" and two for a "0" (`41_transmitter.md` R72 and R73). -/
theorem length_flatMap_sym (bs : List Bool) : (bs.flatMap sym).length = 2 * bs.length + 2 * bs.count true := by
  induction bs with
  | nil => rfl
  | cons b bs ih =>
    rw [List.flatMap_cons, List.length_append, ih, List.length_cons, List.count_cons]
    cases b <;> simp [sym, sym0, sym1] <;> omega

/-- A payload is sent as 32 bits. -/
@[simp] theorem length_payloadBits (d : Payload) : (payloadBits d).length = 32 := by
  simp [payloadBits, dataW]

/-- The length of a frame's program, by the 1 bits in the order sent (`41_transmitter.md` R71 and R79). -/
theorem length_txProgram (d : Payload) : (txProgram d).length = 197 + 2 * (payloadBits d).count true := by
  have hpreamble : (List.replicate preambleTx sym1).flatten.length = 124 := by simp [preambleTx, sym1]
  have hguard : guardOps.length = 5 := rfl
  have hzero : sym0.length = 2 := rfl
  simp only [txProgram, List.length_append, hpreamble, hguard, hzero, length_flatMap_sym, length_payloadBits]
  omega

/-- A frame's program has between 197 and 261 micro-operations, so `tx_upc` reaches its end without wrapping. -/
theorem txProgram_length_bounds (d : Payload) : 197 ≤ (txProgram d).length ∧ (txProgram d).length ≤ 261 := by
  have hlen := length_txProgram d
  have hcount : (payloadBits d).count true ≤ (payloadBits d).length := List.count_le_length
  rw [length_payloadBits] at hcount
  omega

end Sys2Proof.Machine
end

section
/-! PROOFS. The machine's invariant, by the transmitter's part and the receiver's part: it holds at reset, every
operation that an agent may issue keeps it, and so does every step. -/

namespace Sys2Proof.Machine

/-- The transmitter's part of the invariant (`10_state.md` R13 and R14, `41_transmitter.md` R70). -/
structure TxLaws (cfg : TxConfig) (run : TxRun) (readHeld : Bool) : Prop where
  configured : cfg.cfgValid = true →
    2 ≤ cfg.cyclesPerBit.toNat ∧ cfg.halfCount.toNat = cfg.cyclesPerBit.toNat / 2
  unconfigured : cfg.cfgValid = false → cfg = TxConfig.reset ∧ run.busy = false
  driven : run.oe = cfg.cfgValid
  busy : run.busy = true → run.upc.toNat < (txProgram run.word).length ∧ readHeld = false
  rest : run.busy = false → run.upc = 0#9 ∨ run.upc.toNat = (txProgram run.word).length

/-- The receiver's part of the invariant (`10_state.md` R15 and R17). -/
structure RxLaws (cfg : RxConfig) (dec : Decoder) : Prop where
  divider : cfg.divider.toNat ∈ dividers
  reload : 1 ≤ cfg.reload.toNat
  enabled : cfg.tmrEn = cfg.cfgValid
  unconfigured : cfg.cfgValid = false → cfg = RxConfig.reset ∧ dec = Decoder.reset
  decoder : DecoderInv dec

/-- The invariant reads the clock, the transmitter with the hold, and the receiver; nothing else. -/
theorem inv_iff {s : State} : Inv s ↔
    1 ≤ s.coreClockHz.val ∧ TxLaws s.txCfg s.txRun s.readHeld ∧ RxLaws s.rxCfg s.dec := by
  constructor
  · intro h
    exact ⟨h.clock, ⟨h.txConfigured, h.txUnconfigured, h.txDriven, h.txBusy, h.txIdle⟩,
      ⟨h.rxDivider, h.rxReload, h.rxEnabled, h.rxUnconfigured, h.decoder⟩⟩
  · rintro ⟨hclock, htx, hrx⟩
    exact ⟨hclock, htx.configured, htx.unconfigured, htx.driven, htx.busy, htx.rest,
      hrx.divider, hrx.reload, hrx.enabled, hrx.unconfigured, hrx.decoder⟩

/-- The transmitter's reset values are legal. -/
theorem txLaws_reset : TxLaws TxConfig.reset TxRun.reset false :=
  ⟨nofun, fun _ => ⟨rfl, rfl⟩, rfl, nofun, fun _ => .inl rfl⟩

/-- The receiver's reset values are legal. -/
theorem rxLaws_reset : RxLaws RxConfig.reset Decoder.reset :=
  ⟨by decide, by decide, rfl, fun _ => ⟨rfl, rfl⟩, decoderInv_reset⟩

/-- The clock rate of the configuration is at least 1 (`00_scope.md` R5). -/
theorem one_le_coreClockHz : 1 ≤ Config.coreClockHz.val := by
  simp [Config.coreClockHz]

/-- Settles O52: each part of the state has legal reset values. -/
theorem resetMeetsInvariant : Obligations.ResetMeetsInvariant :=
  inv_iff.mpr ⟨one_le_coreClockHz, txLaws_reset, rxLaws_reset⟩

/-- Settles O50: R26's table, value by value. -/
theorem resetGivesTheStatedValues : Obligations.ResetGivesTheStatedValues :=
  ⟨rfl, rfl, rfl, rfl, rfl, maxL_eq, maxS_eq, minS_eq⟩

/-- The configuration of an accepted rate is legal (`41_transmitter.md` R68, `40_timing_constants.md` R57 to R59). -/
theorem txConfigOf_legal {clock : Nat} (pin : PinId) {rate : Rate} (hclock : clock < 2 ^ 32)
    (h : txRateRefusal clock rate.toNat = none) :
    2 ≤ (txConfigOf clock pin rate).cyclesPerBit.toNat ∧
    (txConfigOf clock pin rate).halfCount.toNat = (txConfigOf clock pin rate).cyclesPerBit.toNat / 2 := by
  obtain ⟨-, htwo⟩ := txRateRefusal_eq_none_iff.mp h
  have hle := cyclesPerBit_le clock rate.toNat
  simp only [txConfigOf, halfCount, BitVec.toNat_ofNat]
  omega

/-- TXBEGIN's writes keep the transmitter's laws. -/
theorem TxLaws.txbegin {cfg : TxConfig} {run : TxRun} {held : Bool} {clock : Nat} (pin : PinId) {rate : Rate}
    (level : Level) (h : TxLaws cfg run held) (hclock : clock < 2 ^ 32)
    (hr : txRateRefusal clock rate.toNat = none) :
    TxLaws (txConfigOf clock pin rate) { run with oe := true, level := level } held :=
  ⟨fun _ => txConfigOf_legal pin hclock hr, nofun, rfl, h.busy, h.rest⟩

/-- TXSEND's writes keep the transmitter's laws: a program is not empty. -/
theorem TxLaws.txsend {cfg : TxConfig} {run : TxRun} (data : Payload) (h : TxLaws cfg run false)
    (hv : cfg.cfgValid = true) :
    TxLaws cfg { run with word := data, upc := 0#9, time := 0, busy := true } false := by
  have hlen := txProgram_length_bounds data
  refine ⟨h.configured, fun hn => absurd (hv.symm.trans hn) (by decide), h.driven, fun _ => ⟨?_, rfl⟩, nofun⟩
  change 0 < (txProgram data).length
  omega

/-- A change of level and time alone keeps the transmitter's laws. -/
theorem TxLaws.withLevelTime {cfg : TxConfig} {run : TxRun} {held : Bool} (h : TxLaws cfg run held)
    (level : Level) (time : Nat) : TxLaws cfg { run with level := level, time := time } held :=
  ⟨h.configured, h.unconfigured, h.driven, h.busy, h.rest⟩

/-- The hold of an RXREAD may change while no frame is being emitted. -/
theorem TxLaws.withReadHeld {cfg : TxConfig} {run : TxRun} {held : Bool} (h : TxLaws cfg run held)
    {held' : Bool} (hb : held' = true → run.busy = false) : TxLaws cfg run held' := by
  refine ⟨h.configured, h.unconfigured, h.driven, fun hbusy => ⟨(h.busy hbusy).1, ?_⟩, h.rest⟩
  cases held' with
  | false => rfl
  | true => simp [hb rfl] at hbusy

/-- A frame in progress may move to any index inside its program, or end at its length. -/
theorem TxLaws.moveTo {cfg : TxConfig} {run : TxRun} {held : Bool} (h : TxLaws cfg run held) (hb : run.busy = true)
    {upc : BitVec 9} {busy : Bool} (hin : busy = true → upc.toNat < (txProgram run.word).length)
    (hend : busy = false → upc.toNat = (txProgram run.word).length) :
    TxLaws cfg { run with upc := upc, busy := busy } held := by
  have hvalid : cfg.cfgValid = true := by
    by_contra hn
    have hidle := (h.unconfigured (by simpa using hn)).2
    simp [hb] at hidle
  exact ⟨h.configured, fun hn => absurd (hvalid.symm.trans hn) (by decide), h.driven,
    fun hbusy => ⟨hin hbusy, (h.busy hb).2⟩, fun hidle => .inr (hend hidle)⟩

/-- A busy sequencer's advance keeps the transmitter's laws: it stays inside the program or stops at its end. -/
theorem TxLaws.advance {s : State} (h : TxLaws s.txCfg s.txRun s.readHeld) (hb : s.txRun.busy = true) :
    TxLaws s.txAdvance.txCfg s.txAdvance.txRun s.txAdvance.readHeld := by
  obtain ⟨hupc, -⟩ := h.busy hb
  have hlen := txProgram_length_bounds s.txRun.word
  have hnext : (s.txRun.upc + 1#9).toNat = s.txRun.upc.toNat + 1 := by
    rw [BitVec.toNat_add, BitVec.toNat_ofNat]
    omega
  rw [State.txAdvance_eq]
  refine h.moveTo hb ?inside ?atEnd
  case inside =>
    split
    · nofun
    · intro _; omega
  case atEnd =>
    split
    · next hend => exact fun _ => hend
    · simp [hb]

/-- RXBEGIN's writes meet the receiver's laws (`42_receiver_config.md` R84). -/
theorem rxLaws_rxbegin {clock : Nat} (pin : PinId) {rate : Rate} (h : rxRateRefusal clock rate.toNat = none) :
    RxLaws (rxConfigOf clock pin rate) Decoder.reset := by
  have hmem := selectTick_divider_mem clock timerMax rate.toNat
  have hle := selectTick_reload_le clock timerMax rate.toNat
  obtain ⟨-, hne⟩ := rxRateRefusal_eq_none_iff.mp h
  have hsmall : ∀ d ∈ dividers, d < 2048 := by decide
  have hmax : timerMax = 65535 := rfl
  refine ⟨?_, ?_, rfl, nofun, decoderInv_reset⟩
  · simpa [rxConfigOf, Nat.mod_eq_of_lt (hsmall _ hmem)] using hmem
  · simp only [rxConfigOf, BitVec.toNat_ofNat]
    omega

/-- A configured receiver's decoder may change to any that meets the invariant. -/
theorem RxLaws.withDec {cfg : RxConfig} {dec dec' : Decoder} (h : RxLaws cfg dec) (hv : cfg.cfgValid = true)
    (hd : DecoderInv dec') : RxLaws cfg dec' :=
  ⟨h.divider, h.reload, h.enabled, fun hn => absurd (hv.symm.trans hn) (by decide), hd⟩

/-- A word is there only after an RXBEGIN. -/
theorem RxLaws.cfgValid_of_done {cfg : RxConfig} {dec : Decoder} (h : RxLaws cfg dec) (hd : dec.status = .done) :
    cfg.cfgValid = true := by
  by_contra hn
  obtain ⟨-, rfl⟩ := h.unconfigured (by simpa using hn)
  exact absurd hd (by decide)

/-- What holds where `step` runs an operation: the host is free to send while no RXREAD holds it and free to read
while no frame is being emitted, and a TICK comes from a running tick source. -/
def Issuable (s : State) : Instr → Prop
  | .txsend _ => s.readHeld = false
  | .rxread => s.txRun.busy = false
  | .tick _ => s.rxCfg.tmrEn = true
  | _ => True

/-- Every operation keeps the invariant where it can be issued. -/
theorem exec_keeps_inv {i : Instr} {s t : State} (hi : Issuable s i) (hs : Inv s) (h : exec i s = .next t) :
    Inv t := by
  obtain ⟨hclock, htx, hrx⟩ := inv_iff.mp hs
  refine inv_iff.mpr ?_
  cases i with
  | txbegin pin rate =>
    obtain ⟨r, rfl⟩ | ⟨hr, rfl⟩ := exec_txbegin_cases h
    · exact ⟨hclock, htx, hrx⟩
    · exact ⟨hclock, htx.txbegin pin _ s.coreClockHz.isLt hr, hrx⟩
  | txsend data =>
    obtain ⟨r, rfl⟩ | ⟨hv, rfl⟩ := exec_txsend_cases h
    · exact ⟨hclock, htx, hrx⟩
    · have hfree : s.readHeld = false := hi
      rw [hfree] at htx
      refine ⟨hclock, ?_, hrx⟩
      simpa [hfree] using htx.txsend data hv
  | rxbegin pin rate =>
    obtain ⟨r, rfl⟩ | ⟨hr, rfl⟩ := exec_rxbegin_cases h
    · exact ⟨hclock, htx, hrx⟩
    · exact ⟨hclock, htx, rxLaws_rxbegin pin hr⟩
  | rxhas =>
    obtain rfl := eq_of_exec_rxhas h
    exact ⟨hclock, htx, hrx⟩
  | rxread =>
    obtain ⟨hd, rfl⟩ | ⟨-, rfl⟩ := exec_rxread_cases h
    · have hrearm : DecoderInv { s.dec with status := .init } := discardFrame_inv hrx.decoder.fewTransitions
      exact ⟨hclock, htx.withReadHeld nofun, hrx.withDec (hrx.cfgValid_of_done hd) hrearm⟩
    · exact ⟨hclock, htx.withReadHeld fun _ => hi, hrx⟩
  | tick level =>
    obtain rfl := eq_of_exec_tick h
    have hv : s.rxCfg.cfgValid = true := hrx.enabled.symm.trans hi
    exact ⟨hclock, htx, hrx.withDec hv (decoderTick_inv level hrx.decoder)⟩
  | tgl =>
    obtain rfl := eq_of_exec_tgl h
    exact ⟨hclock, htx.withLevelTime _ _, hrx⟩
  | waith =>
    obtain rfl := eq_of_exec_waith h
    exact ⟨hclock, htx.withLevelTime _ _, hrx⟩
  | waitf =>
    obtain rfl := eq_of_exec_waitf h
    exact ⟨hclock, htx.withLevelTime _ _, hrx⟩
  | drvlo =>
    obtain rfl := eq_of_exec_drvlo h
    exact ⟨hclock, htx.withLevelTime _ _, hrx⟩

/-- The host's port brings the host's own operations only (`30_encoding.md` R43 and R46). -/
theorem issuer_of_decode_cmd {p : CmdPort} {i : Instr} (h : decode (.cmd p) = .instr i) : i.issuer = .host := by
  change decodeCmd p = .instr i at h
  unfold decodeCmd at h
  split_ifs at h
  split at h <;> cases h <;> rfl

/-- The sequencer's codes stand for its own operations only (`30_encoding.md` R44). -/
theorem issuer_decodeMicro (u : MicroCode) : (decodeMicro u).issuer = .txSequencer := by
  unfold decodeMicro
  split_ifs <;> rfl

/-- A free host can issue each of its operations. -/
theorem issuable_of_host_free {s : State} {i : Instr} (hi : i.issuer = .host) (hf : s.hostHold = false) :
    Issuable s i := by
  obtain ⟨hbusy, hheld⟩ : s.txRun.busy = false ∧ s.readHeld = false := by simpa [State.hostHold] using hf
  cases i with
  | txsend data => exact hheld
  | rxread => exact hbusy
  | txbegin _ _ | rxbegin _ _ | rxhas => exact trivial
  | tick _ | tgl | waith | waitf | drvlo => cases hi

/-- The sequencer can issue each of its operations. -/
theorem issuable_of_sequencer {s : State} {i : Instr} (hi : i.issuer = .txSequencer) : Issuable s i := by
  cases i with
  | tgl | waith | waitf | drvlo => exact trivial
  | txbegin _ _ | txsend _ | rxbegin _ _ | rxhas | rxread | tick _ => cases hi

/-- A micro-operation's own effect leaves `tx_busy` alone: TXSEND is its only writer outside the sequencer's advance. -/
theorem busy_of_exec_micro {i : Instr} {s t : State} (hi : i.issuer = .txSequencer) (h : exec i s = .next t) :
    t.txRun.busy = s.txRun.busy := by
  obtain ⟨-, hrun, -⟩ := registersHaveTheirWriters i s t h
  by_contra hne
  obtain ⟨data, rfl⟩ := hrun (.inr (.inl hne))
  cases hi

/-- A busy sequencer's advance keeps the invariant. -/
theorem txAdvance_keeps_inv {s : State} (hs : Inv s) (hb : s.txRun.busy = true) : Inv s.txAdvance := by
  obtain ⟨hclock, htx, hrx⟩ := inv_iff.mp hs
  exact inv_iff.mpr ⟨hclock, htx.advance hb, hrx⟩

/-- Power-on reset meets the invariant from every state with a legal clock. -/
theorem powerOnReset_inv {s : State} (hclock : 1 ≤ s.coreClockHz.val) : Inv s.powerOnReset :=
  inv_iff.mpr ⟨hclock, txLaws_reset, rxLaws_reset⟩

/-- The schedule is no part of the invariant. -/
theorem inv_withTurns {s : State} (hs : Inv s) (ts : List Turn) : Inv (s.withTurns ts) :=
  inv_iff.mpr (inv_iff (s := s).mp hs)

/-- The host's list of commands is no part of the invariant. -/
theorem inv_withHostProg {s : State} (hs : Inv s) (ps : List CmdPort) : Inv (s.withHostProg ps) :=
  inv_iff.mpr (inv_iff (s := s).mp hs)

/-- The refusal mark is no part of the invariant. -/
theorem inv_refuse {s : State} (hs : Inv s) (r : RefuseReason) : Inv (s.refuse r) :=
  inv_iff.mpr (inv_iff (s := s).mp hs)

/-- A host that an RXREAD holds has no frame being emitted. -/
theorem busy_eq_false_of_readHeld {s : State} (hs : Inv s) (hr : s.readHeld = true) : s.txRun.busy = false := by
  by_contra hb
  have hfree := (hs.txBusy (by simpa using hb)).2
  simp [hr] at hfree

/-- Settles O53: one case for each thing a step can do. -/
theorem stepKeepsInvariant : Obligations.StepKeepsInvariant := by
  unfold Obligations.StepKeepsInvariant
  intro s t hs h
  obtain ⟨-, hcases⟩ := step_next_cases h
  rcases hcases with ⟨hheld, -, he⟩ | ⟨-, rfl⟩ | ⟨ts, -, rfl⟩ | ⟨u, ts, -, rfl⟩ |
    ⟨ts, p, rest, e, -, -, -, -, rfl⟩ | ⟨ts, p, rest, i, -, hfree, -, hdec, he⟩ |
    ⟨ts, u, m, -, hbusy, -, he, rfl⟩ | ⟨ts, level, -, hen, he⟩
  · have hidle : Issuable s .rxread := busy_eq_false_of_readHeld hs hheld
    exact exec_keeps_inv hidle hs he
  · exact hs
  · exact powerOnReset_inv hs.clock
  · exact inv_withTurns hs ts
  · exact inv_refuse (inv_withHostProg (inv_withTurns hs ts) rest) .reservedCmd
  · have hfree' : ((s.withTurns ts).withHostProg rest).hostHold = false := hfree
    exact exec_keeps_inv (issuable_of_host_free (issuer_of_decode_cmd hdec) hfree')
      (inv_withHostProg (inv_withTurns hs ts) rest) he
  · have hmicro := issuer_decodeMicro u
    have hm : Inv m := exec_keeps_inv (issuable_of_sequencer hmicro) (inv_withTurns hs ts) he
    exact txAdvance_keeps_inv hm ((busy_of_exec_micro hmicro he).trans hbusy)
  · have hen' : Issuable (s.withTurns ts) (.tick level) := hen
    exact exec_keeps_inv hen' (inv_withTurns hs ts) he

end Sys2Proof.Machine
end

section
/-! PROOFS. The decoder and the encoder (`30_encoding.md` R42 to R46): what each port's signals decode to, that encoding
and decoding agree, and the refusal of a reserved byte. -/

namespace Sys2Proof.Machine

/-- `cmd[2:0]` as a number. -/
theorem cmdOp_toNat (c : CmdByte) : (cmdOp c).toNat = c.toNat % 8 := by
  simp [cmdOp]

/-- `cmd[7:3]` as a number: it fills its 5 bits. -/
theorem cmdRsv_toNat (c : CmdByte) : (cmdRsv c).toNat = c.toNat / 8 := by
  have hc : c.toNat < 256 := c.isLt
  simp only [cmdRsv, BitVec.extractLsb'_toNat, Nat.shiftRight_eq_div_pow]
  omega

/-- A command byte whose reserved field is 0 is its operation code. -/
theorem cmd_eq_of_fields {c : CmdByte} {op : BitVec 3} (hrsv : cmdRsv c = 0#5) (hop : cmdOp c = op) :
    c = op.setWidth 8 := by
  have hhigh : c.toNat / 8 = 0 := by rw [← cmdRsv_toNat, hrsv]; rfl
  have hlow : c.toNat % 8 = op.toNat := by rw [← cmdOp_toNat, hop]
  apply BitVec.eq_of_toNat_eq
  rw [BitVec.toNat_setWidth_of_le (by decide)]
  omega

/-- The host's port brings five operations, each under its own byte with the operands of its own ports
(`30_encoding.md` R43 and R45). -/
theorem decode_cmd_eq_instr_iff {p : CmdPort} {i : Instr} :
    decode (.cmd p) = .instr i ↔
      (p.cmd = 0x00#8 ∧ .txbegin p.opPin p.opRate = i) ∨ (p.cmd = 0x01#8 ∧ .txsend p.opData = i) ∨
      (p.cmd = 0x02#8 ∧ .rxbegin p.opPin p.opRate = i) ∨ (p.cmd = 0x03#8 ∧ .rxhas = i) ∨
      (p.cmd = 0x04#8 ∧ .rxread = i) := by
  constructor
  · intro h
    change decodeCmd p = .instr i at h
    unfold decodeCmd at h
    split_ifs at h with hrsv
    generalize hop : cmdOp p.cmd = op at h
    have hcmd : p.cmd = op.setWidth 8 := cmd_eq_of_fields (not_not.mp hrsv) hop
    split at h <;> cases h <;> simp [hcmd]
  · rintro (⟨hc, rfl⟩ | ⟨hc, rfl⟩ | ⟨hc, rfl⟩ | ⟨hc, rfl⟩ | ⟨hc, rfl⟩) <;>
      simp [decode, decodeCmd, hc, cmdRsv, cmdOp]

/-- The tick source's port brings TICK with the line's level, under event code 0x05 only (`30_encoding.md` R43). -/
theorem decode_event_eq_instr_iff {code : CmdByte} {level : Level} {i : Instr} :
    decode (.event code level) = .instr i ↔ code = 0x05#8 ∧ .tick level = i := by
  by_cases hc : code = 0x05#8
  · rw [hc, decode_tickEvent_eq_instr_iff]
    simp [eq_comm]
  · simp [decode, decodeEvent, codeTick, hc]

/-- Each of the four micro-operation codes has its own operation (`30_encoding.md` R44). -/
theorem eq_decodeMicro_iff {u : MicroCode} {i : Instr} :
    i = decodeMicro u ↔
      (u = 0b00#2 ∧ i = .tgl) ∨ (u = 0b01#2 ∧ i = .waith) ∨ (u = 0b10#2 ∧ i = .waitf) ∨
      (u = 0b11#2 ∧ i = .drvlo) := by
  have hu : u = 0b00#2 ∨ u = 0b01#2 ∨ u = 0b10#2 ∨ u = 0b11#2 := by revert u; decide
  rcases hu with rfl | rfl | rfl | rfl <;> simp [decodeMicro, codeTgl, codeWaith, codeWaitf]

/-- Decoding undoes encoding. -/
theorem decode_encode (i : Instr) : decode (encode i) = .instr i := by
  cases i with
  | txbegin _ _ | txsend _ | rxbegin _ _ | rxhas | rxread => exact decode_cmd_eq_instr_iff.mpr (by simp)
  | tick _ => exact decode_event_eq_instr_iff.mpr ⟨rfl, rfl⟩
  | tgl | waith | waitf | drvlo => rfl

/-- An encoding stands on the port of the agent that issues the operation (`30_encoding.md` R43 and R44). -/
theorem agent_encode (i : Instr) : (encode i).agent = i.issuer := by
  cases i <;> rfl

/-- Settles O1: the signals that decode to an operation are found port by port. -/
theorem decodeAgreesWithEncode : Obligations.DecodeAgreesWithEncode := by
  unfold Obligations.DecodeAgreesWithEncode
  intro i
  refine ⟨decode_encode i, agent_encode i, fun sig => ?_⟩
  cases sig with
  | cmd p =>
    obtain ⟨cmd, opPin, opRate, opData⟩ := p
    rw [decode_cmd_eq_instr_iff]
    cases i <;> simp
  | event code rxLine =>
    rw [decode_event_eq_instr_iff]
    cases i <;> simp
  | micro u =>
    rw [decode_micro_eq_instr_iff, eq_decodeMicro_iff]
    cases i <;> simp

/-- The host's bytes are 0x00 to 0x04. -/
theorem cmd_toNat_lt_of_decode {p : CmdPort} {i : Instr} (h : decode (.cmd p) = .instr i) : p.cmd.toNat < 5 := by
  rcases decode_cmd_eq_instr_iff.mp h with ⟨hc, -⟩ | ⟨hc, -⟩ | ⟨hc, -⟩ | ⟨hc, -⟩ | ⟨hc, -⟩ <;> simp [hc]

/-- Every other byte on the `cmd` port is rejected (`30_encoding.md` R46). -/
theorem decode_cmd_rejected_of_le {p : CmdPort} (h : 5 ≤ p.cmd.toNat) : ∃ e, decode (.cmd p) = .rejected e := by
  cases hd : decode (.cmd p) with
  | instr i => exact absurd (cmd_toNat_lt_of_decode hd) (by omega)
  | rejected e => exact ⟨e, rfl⟩

/-- The turn of a free host with a byte that the decoder rejects: the byte leaves the port and is refused. -/
theorem step_host_of_rejected {s : State} {ts : List Turn} {p : CmdPort} {rest : List CmdPort} {e : DecodeError}
    (hs : ScheduleDecides s) (ht : s.turns = .host :: ts) (hh : s.hostHold = false) (hp : s.hostProg = p :: rest)
    (hd : decode (.cmd p) = .rejected e) :
    step s = .next (((s.withTurns ts).withHostProg rest).refuse .reservedCmd) := by
  have hfree : (s.withTurns ts).hostHold = false := hh
  have hfetch : s.fetch = .quiet (((s.withTurns ts).withHostProg rest).refuse .reservedCmd) := by
    obtain ⟨hmark, hread⟩ := hs
    rw [State.fetch_of_turn hmark hread ht]
    simp [fetchTurn, hfree, fetchCommand, hp, hd]
  simp only [step, hfetch]

/-- Settles O2: the four reserved forms are the bytes from 0x05 on, and the decoder rejects each of them. -/
theorem reservedCommandIsRefused : Obligations.ReservedCommandIsRefused := by
  unfold Obligations.ReservedCommandIsRefused
  intro p s rest ts hbyte hs hh ht hp
  obtain ⟨e, hd⟩ := decode_cmd_rejected_of_le (p := p) (by omega)
  exact step_host_of_rejected hs ht hh hp hd

/-- Settles O3: each word has the shape that O1 gives its operation. -/
theorem sampleWordsDecode : Obligations.SampleWordsDecode := by
  have preimage (i : Instr) := (decodeAgreesWithEncode i).2.2
  exact ⟨(preimage (.txbegin 3#8 1000#32) _).mpr ⟨77#32, rfl⟩,
    (preimage (.txsend 0x12345678#32) _).mpr ⟨9#8, 9#32, rfl⟩,
    (preimage .rxread _).mpr ⟨9#8, 9#32, 9#32, rfl⟩,
    (preimage (.tick true) _).mpr rfl,
    (preimage .waitf _).mpr rfl⟩

end Sys2Proof.Machine
end

section
/-! PROOFS. The threshold calculator (`40_timing_constants.md`): the thresholds, the divider search and the tick rate
it gives, and what TXBEGIN and RXBEGIN do with a rate. -/

namespace Sys2Proof.Machine

/-- A strictly increasing list of dividers is searched for the smallest that fits. -/
theorem searchDivider_eq_of_smallest {clock limit samples d : Nat} {ds : List Nat} (hsorted : ds.Pairwise (· < ·))
    (hd : d ∈ ds) (hfit : clock / d / samples < limit)
    (hfirst : ∀ e ∈ ds, e < d → ¬ clock / e / samples < limit) :
    searchDivider clock limit samples ds = (d, clock / d / samples) := by
  induction ds with
  | nil => cases hd
  | cons x xs ih =>
    obtain ⟨hx, hxs⟩ := List.pairwise_cons.mp hsorted
    rcases List.mem_cons.mp hd with rfl | hmem
    · simp [searchDivider, hfit]
    · have hskip : ¬ clock / x / samples < limit := hfirst x List.mem_cons_self (hx d hmem)
      have hrest := ih hxs hmem fun e he => hfirst e (List.mem_cons_of_mem x he)
      simp [searchDivider, hskip, hrest]

/-- The search clamps when no divider fits (`40_timing_constants.md` R62). -/
theorem searchDivider_eq_clamp {clock limit samples : Nat} {ds : List Nat}
    (hnone : ∀ e ∈ ds, ¬ clock / e / samples < limit) : searchDivider clock limit samples ds = (1024, limit) := by
  rcases searchDivider_cases clock limit samples ds with ⟨pre, d, post, rfl, hfit, -, -⟩ | ⟨-, he⟩
  · exact absurd hfit (hnone d (by simp))
  · exact he

/-- `DIVIDERS` is strictly increasing (`40_timing_constants.md` R60). -/
theorem dividers_pairwise_lt : dividers.Pairwise (· < ·) := by decide

/-- Settles O5: the search over a strictly increasing list stops at the smallest divider that fits. -/
theorem selectTickFindsSmallestDivider : Obligations.SelectTickFindsSmallestDivider := by
  unfold Obligations.SelectTickFindsSmallestDivider
  intro clock rate _
  exact ⟨fun d hd hfit hfirst => searchDivider_eq_of_smallest dividers_pairwise_lt hd hfit hfirst,
    searchDivider_eq_clamp⟩

/-- What `SelectTick` answers, with its two divisions as one: a divider that fits, found after the divider 1 was
tried, or the clamp, after 1024 was tried. -/
theorem selectTick_cases (clock limit rate : Nat) :
    (∃ d ∈ dividers, clock / (d * (rate * 8)) < limit ∧ (d = 1 ∨ limit ≤ clock / (rate * 8)) ∧
      selectTick clock limit rate = (d, clock / (d * (rate * 8)))) ∨
    (limit ≤ clock / (1024 * (rate * 8)) ∧ selectTick clock limit rate = (1024, limit)) := by
  rcases searchDivider_cases clock limit (rate * oversampling) dividers with
    ⟨pre, d, post, hds, hfit, hpre, he⟩ | ⟨hall, he⟩
  · rw [Nat.div_div_eq_div_mul] at hfit he
    have hmem : d ∈ dividers := by simp [hds]
    refine .inl ⟨d, hmem, hfit, ?_, he⟩
    cases pre with
    | nil => exact .inl (List.cons.inj hds).1.symm
    | cons x xs =>
      obtain ⟨rfl, -⟩ := List.cons.inj hds
      exact .inr (by simpa [oversampling] using hpre 1 List.mem_cons_self)
  · have hlast := hall 1024 (by decide)
    rw [Nat.div_div_eq_div_mul] at hlast
    exact .inr ⟨Nat.le_of_not_lt hlast, he⟩

/-- Settles O6: unclamped, the reload is the floored quotient of the clock by `8 × divider × rate`; clamped, that
quotient is at least the reload. -/
theorem tickRateNeverBelowEightPerBit : Obligations.TickRateNeverBelowEightPerBit := by
  unfold Obligations.TickRateNeverBelowEightPerBit
  intro clock rate d r hrate hsel
  have hticks (n : Nat) : 8 * (n * d) * rate = n * (d * (rate * 8)) := by ring
  have hperiod : 8 * d * rate = d * (rate * 8) := by ring
  rw [hticks, hticks, hperiod]
  rcases selectTick_cases clock 65535 rate with ⟨e, hmem, -, -, he⟩ | ⟨hclamp, he⟩
  · obtain ⟨rfl, rfl⟩ := Prod.mk.inj (hsel.symm.trans he)
    have hdivider : ∀ d ∈ dividers, 0 < d := by decide
    have hpos : 0 < d * (rate * 8) := Nat.mul_pos (hdivider d hmem) (by omega)
    exact ⟨Nat.div_mul_le_self _ _, fun _ => (Nat.div_lt_iff_lt_mul hpos).mp (Nat.lt_succ_self _),
      fun _ hdvd => (Nat.div_mul_cancel hdvd).symm⟩
  · obtain ⟨rfl, rfl⟩ := Prod.mk.inj (hsel.symm.trans he)
    have hpos : 0 < 1024 * (rate * 8) := by omega
    exact ⟨(Nat.le_div_iff_mul_le hpos).mp hclamp, fun h => absurd rfl h, fun h => absurd rfl h⟩

/-- The reload is 0 exactly when 8 times the rate is above the clock (`40_timing_constants.md` R63): the search goes
past divider 1 only where the quotient there is so large that no divider brings it to 0. -/
theorem selectTick_reload_eq_zero_iff {clock rate : Nat} (hrate : 1 ≤ rate) :
    (selectTick clock timerMax rate).2 = 0 ↔ clock < rate * 8 := by
  have hmax : timerMax = 65535 := rfl
  have hpos : 0 < rate * 8 := by omega
  have hzero : clock / (rate * 8) = 0 ↔ clock < rate * 8 := Nat.div_eq_zero_iff_lt hpos
  rcases selectTick_cases clock timerMax rate with ⟨d, hmem, -, rfl | hlarge, he⟩ | ⟨hclamp, he⟩
  · rw [he, Nat.one_mul, hzero]
  · have hle : ∀ d ∈ dividers, 0 < d ∧ d ≤ 1024 := by decide
    obtain ⟨hdpos, hdle⟩ := hle d hmem
    have hquot : 0 < clock / (rate * 8) / d := Nat.div_pos (by omega) hdpos
    rw [he, Nat.mul_comm d, ← Nat.div_div_eq_div_mul]
    omega
  · have hfactor : clock / (1024 * (rate * 8)) ≤ clock / (rate * 8) := Nat.div_le_div_left (by omega) hpos
    rw [he]
    omega

/-- Rate 0 is refused for the transmitter (`40_timing_constants.md` R59). -/
@[simp] theorem txRateRefusal_zero (clock : Nat) : txRateRefusal clock 0 = some .rateZero := rfl

/-- Rate 0 is refused for the receiver (`40_timing_constants.md` R63). -/
@[simp] theorem rxRateRefusal_zero (clock : Nat) : rxRateRefusal clock 0 = some .rateZero := rfl

/-- A full-bit count below 2 is too fast for the transmitter (`40_timing_constants.md` R59). -/
theorem txRateRefusal_of_count_lt {clock rate : Nat} (hrate : rate ≠ 0) (hcount : cyclesPerBit clock rate < 2) :
    txRateRefusal clock rate = some .rateTooHighTx := by
  simp [txRateRefusal, hrate, hcount]

/-- A reload of 0 is too fast for the receiver (`40_timing_constants.md` R63). -/
theorem rxRateRefusal_of_reload_zero {clock rate : Nat} (hrate : rate ≠ 0)
    (hreload : (selectTick clock timerMax rate).2 = 0) : rxRateRefusal clock rate = some .rateTooHighRx := by
  simp [rxRateRefusal, hrate, hreload]

section Begin

variable {s : State} {rate : Rate} {r : RefuseReason}

/-- TXBEGIN with a rate that the transmitter cannot serve. -/
theorem exec_txbegin_of_refusal (pin : PinId) (h : txRateRefusal s.coreClockHz.val rate.toNat = some r) :
    exec (.txbegin pin rate) s = .next (s.refuse r) := by
  simp [exec, execTxbegin, h]

/-- TXBEGIN with a rate that the transmitter can serve (`41_transmitter.md` R68). -/
theorem exec_txbegin_of_accepted (pin : PinId) (h : txRateRefusal s.coreClockHz.val rate.toNat = none) :
    exec (.txbegin pin rate) s = .next ((s.withTxCfg (txConfigOf s.coreClockHz.val pin rate)).withTxRun
      { s.txRun with oe := true, level := Config.txInitLevel s.draws }).nextDraw := by
  simp [exec, execTxbegin, h, txConfigOf]

/-- RXBEGIN with a rate that the receiver cannot serve. -/
theorem exec_rxbegin_of_refusal (pin : PinId) (h : rxRateRefusal s.coreClockHz.val rate.toNat = some r) :
    exec (.rxbegin pin rate) s = .next (s.refuse r) := by
  simp [exec, execRxbegin, h]

/-- RXBEGIN with a rate that the receiver can serve (`42_receiver_config.md` R84). -/
theorem exec_rxbegin_of_accepted (pin : PinId) (h : rxRateRefusal s.coreClockHz.val rate.toNat = none) :
    exec (.rxbegin pin rate) s =
      .next ((s.withRxCfg (rxConfigOf s.coreClockHz.val pin rate)).withDec Decoder.reset) := by
  simp [exec, execRxbegin, h, rxConfigOf]

end Begin

/-- The counts fit their registers: no clock rate reaches 2^32 (`40_timing_constants.md` R66). -/
theorem txConfigOf_counts_toNat {clock : Nat} (pin : PinId) (rate : Rate) (hclock : clock < 2 ^ 32) :
    (txConfigOf clock pin rate).cyclesPerBit.toNat = cyclesPerBit clock rate.toNat ∧
    (txConfigOf clock pin rate).halfCount.toNat = halfCount (cyclesPerBit clock rate.toNat) := by
  have hle := cyclesPerBit_le clock rate.toNat
  simp only [txConfigOf, halfCount, BitVec.toNat_ofNat]
  omega

/-- Settles O20: an accepted RXBEGIN leaves the mark at none, so the marked state tells a refusal. -/
theorem rxbeginRefusedExactlyAboveClock : Obligations.RxbeginRefusedExactlyAboveClock := by
  unfold Obligations.RxbeginRefusedExactlyAboveClock
  intro pin rate s hmark
  refine ⟨fun hzero => exec_rxbegin_of_refusal pin (by simp [hzero]), fun hrate => ?_⟩
  have hne : rate.toNat ≠ 0 := Nat.ne_of_gt hrate
  refine ⟨⟨fun hrefused => ?_, fun hreload => ?_⟩, selectTick_reload_eq_zero_iff hrate⟩
  · by_contra hreload
    rw [exec_rxbegin_of_accepted pin (rxRateRefusal_eq_none_iff.mpr ⟨hne, hreload⟩)] at hrefused
    have hmarks := congrArg State.mark (Host.Outcome.next.inj hrefused)
    simp [hmark] at hmarks
  · exact exec_rxbegin_of_refusal pin (rxRateRefusal_of_reload_zero hne hreload)

/-- Settles O7: by the three answers of the check on the rate. -/
theorem txbeginConfiguresTransmitter : Obligations.TxbeginConfiguresTransmitter := by
  unfold Obligations.TxbeginConfiguresTransmitter
  intro pin rate s
  refine ⟨fun hzero => ?zero, fun hrate hcount => ?tooHigh, fun hrate hcount => ?accepted⟩
  case zero => exact exec_txbegin_of_refusal pin (by simp [hzero])
  case tooHigh => exact exec_txbegin_of_refusal pin (txRateRefusal_of_count_lt (Nat.ne_of_gt hrate) hcount)
  case accepted =>
    have haccepted := txRateRefusal_eq_none_iff.mpr ⟨Nat.ne_of_gt hrate, hcount⟩
    obtain ⟨hfull, hhalf⟩ := txConfigOf_counts_toNat pin rate s.coreClockHz.isLt
    exact ⟨_, exec_txbegin_of_accepted pin haccepted, rfl, rfl, hfull, hhalf, rfl, rfl⟩

/-- `MAXL` is 14 in every state (`10_state.md` R16). -/
@[simp] theorem State.maxL_eq (s : State) : s.maxL = 14#8 := Machine.maxL_eq

/-- `MAXS` is 6 in every state. -/
@[simp] theorem State.maxS_eq (s : State) : s.maxS = 6#8 := Machine.maxS_eq

/-- `MINS` is 2 in every state. -/
@[simp] theorem State.minS_eq (s : State) : s.minS = 2#8 := Machine.minS_eq

/-- Settles O4: the registers' values are the percentages, worked out. -/
theorem thresholdsAreFractionsOfOversampling : Obligations.ThresholdsAreFractionsOfOversampling := by
  unfold Obligations.ThresholdsAreFractionsOfOversampling
  intro s
  simp [twiceMinS_eq]

end Sys2Proof.Machine
end

section
/-! PROOFS. The micro-operations' own effects and TXSEND (`41_transmitter.md` R69 and R75 to R78), the turns of the
sequencer and of a held host (R69 and R70). -/

namespace Sys2Proof.Machine

/-- TGL is a drive of the line at the other level (`41_transmitter.md` R75). -/
theorem exec_tgl (s : State) : exec .tgl s = .next (s.driveLine (!s.txRun.level)) := rfl

/-- WAITH is a wait of half a bit period (`41_transmitter.md` R76). -/
theorem exec_waith (s : State) : exec .waith s = .next (s.waitCycles (s.txCfg.halfCount.toNat * cyclesPerCount)) := rfl

/-- WAITF is a wait of a full bit period (`41_transmitter.md` R77). -/
theorem exec_waitf (s : State) : exec .waitf s = .next (s.waitCycles (s.txCfg.cyclesPerBit.toNat * cyclesPerCount)) :=
  rfl

/-- DRVLO is a drive of the line at the low level (`41_transmitter.md` R78). -/
theorem exec_drvlo (s : State) : exec .drvlo s = .next (s.driveLine false) := rfl

/-- A drive of the line writes the level and the trace only. -/
theorem State.driveLine_frame (s : State) (level : Level) : s.driveLine level =
    { s with txRun := { s.txRun with level := level }, txTrace := (s.driveLine level).txTrace } := rfl

/-- Settles O9: TGL drives the line. -/
theorem tglTogglesLine : Obligations.TglTogglesLine := fun s => ⟨_, exec_tgl s, s.driveLine_frame _⟩

/-- Settles O10: a wait writes `tx_time` only, and `K` is 4. -/
theorem waithWaitsHalfPeriod : Obligations.WaithWaitsHalfPeriod := exec_waith

/-- Settles O11: a wait writes `tx_time` only, and `K` is 4. -/
theorem waitfWaitsFullPeriod : Obligations.WaitfWaitsFullPeriod := exec_waitf

/-- Settles O12: DRVLO drives the line. -/
theorem drvloDrivesLineLow : Obligations.DrvloDrivesLineLow := fun s => ⟨_, exec_drvlo s, s.driveLine_frame _⟩

/-- TXSEND before an accepted TXBEGIN. -/
theorem exec_txsend_of_unconfigured {s : State} (data : Payload) (h : s.txCfg.cfgValid = false) :
    exec (.txsend data) s = .next (s.refuse .sendBeforeBegin) := by
  simp [exec, execTxsend, h]

/-- TXSEND to a configured transmitter (`41_transmitter.md` R69). -/
theorem exec_txsend_of_configured {s : State} (data : Payload) (h : s.txCfg.cfgValid = true) :
    exec (.txsend data) s = .next
      ((s.withTxRun { s.txRun with word := data, upc := 0#9, time := 0, busy := true }).pushTrace
        (.frameStart s.txRun.level)) := by
  simp [exec, execTxsend, h]

section Turns

variable {s : State} {ts : List Turn}

/-- A step in which nothing but the schedule changes: that of an agent that fetches no operation. -/
theorem step_of_quiet {turn : Turn} (hs : ScheduleDecides s) (ht : s.turns = turn :: ts)
    (hq : fetchTurn turn (s.withTurns ts) = .quiet (s.withTurns ts)) : step s = .next (s.withTurns ts) := by
  obtain ⟨hmark, hread⟩ := hs
  simp only [step, State.fetch_of_turn hmark hread ht, hq]

/-- The turn of a held host passes. -/
theorem step_host_of_held (hs : ScheduleDecides s) (ht : s.turns = .host :: ts) (hh : s.hostHold = true) :
    step s = .next (s.withTurns ts) := by
  have hheld : (s.withTurns ts).hostHold = true := hh
  exact step_of_quiet hs ht (by simp [fetchTurn, hheld])

/-- The turn of an idle sequencer passes. -/
theorem step_txSequencer_of_idle (hs : ScheduleDecides s) (ht : s.turns = .txSequencer :: ts)
    (hb : s.txRun.busy = false) : step s = .next (s.withTurns ts) :=
  step_of_quiet hs ht (by simp [fetchTurn, hb])

/-- The turn of a tick source that is off passes. -/
theorem step_tickSource_of_disabled {level : Level} (hs : ScheduleDecides s) (ht : s.turns = .tickSource level :: ts)
    (he : s.rxCfg.tmrEn = false) : step s = .next (s.withTurns ts) :=
  step_of_quiet hs ht (by simp [fetchTurn, he])

end Turns

/-- A busy sequencer holds the host (`41_transmitter.md` R69). -/
theorem State.hostHold_of_busy {s : State} (h : s.txRun.busy = true) : s.hostHold = true := by
  simp [State.hostHold, h]

/-- Settles O8: TXSEND's two answers, and the turn of a host that a busy sequencer holds. -/
theorem txsendStartsFrame : Obligations.TxsendStartsFrame := by
  unfold Obligations.TxsendStartsFrame
  intro data s
  refine ⟨exec_txsend_of_unconfigured data, fun hvalid => ?accepted, fun ts hs hbusy ht => ?held⟩
  case accepted => exact ⟨_, exec_txsend_of_configured data hvalid, rfl, State.hostHold_of_busy rfl⟩
  case held => exact step_host_of_held hs ht (State.hostHold_of_busy hbusy)

end Sys2Proof.Machine
end

section
/-! PROOFS. A frame's program as symbols, and its counts (`41_transmitter.md` R71 to R74 and R79). -/

namespace Sys2Proof.Machine

/-- The program is the 65 symbols and the guard. -/
theorem txProgram_eq (d : Payload) : txProgram d = (frameSymbols d).flatMap sym ++ guardOps := by
  have hpreamble : (List.replicate preambleTx sym1).flatten = (List.replicate preambleTx true).flatMap sym := rfl
  simp [txProgram, frameSymbols, hpreamble, sym]

/-- The payload's bits are its bits from 0 up, in reverse (`20_memory.md` R30). -/
theorem payloadBits_eq_reverse (d : Payload) :
    payloadBits d = ((List.range dataW).map (fun i => d.getLsbD i)).reverse := by
  rw [← List.map_reverse, List.range_eq_range', List.reverse_range', List.map_map]
  simp [payloadBits, dataW, Function.comp_def]

/-- The 1 bits in the order sent are the payload's 1 bits. -/
theorem count_payloadBits (d : Payload) : (payloadBits d).count true = popcount d := by
  simp [payloadBits_eq_reverse, popcount, List.count, List.countP_map, Function.comp_def]

/-- A payload has at most 32 1 bits. -/
theorem popcount_le (d : Payload) : popcount d ≤ 32 := by
  rw [← count_payloadBits, ← length_payloadBits d]
  exact List.count_le_length

/-- A frame has 65 symbols. -/
theorem length_frameSymbols (d : Payload) : (frameSymbols d).length = 65 := by
  simp [frameSymbols, preambleTx]

/-- The "1" symbols of a frame are the preamble's and the payload's. -/
theorem count_true_frameSymbols (d : Payload) : (frameSymbols d).count true = 31 + popcount d := by
  simp only [frameSymbols, preambleTx, List.count_append, List.count_replicate_self, count_payloadBits,
    List.count_singleton]
  simp

/-- The "0" symbols of a frame are the two markers' and the payload's. -/
theorem count_false_frameSymbols (d : Payload) : (frameSymbols d).count false + popcount d = 34 := by
  have hboth := List.count_true_add_count_false (l := frameSymbols d)
  rw [length_frameSymbols, count_true_frameSymbols] at hboth
  omega

/-- The delay iterations of a micro-operation for a full-bit count c (`41_transmitter.md` R76, R77 and R79). -/
def delayCount (c : Nat) (u : MicroCode) : Nat := if u = codeWaith then c / 2 else if u = codeWaitf then c else 0

/-- Each symbol toggles once, and a "1" once more. -/
theorem countP_tgl_flatMap_sym (bs : List Bool) :
    (bs.flatMap sym).countP (fun u => decide (u = codeTgl)) = bs.length + bs.count true := by
  induction bs with
  | nil => rfl
  | cons b bs ih =>
    have hsym : (sym b).countP (fun u => decide (u = codeTgl)) = 1 + if b = true then 1 else 0 := by cases b <;> rfl
    rw [List.flatMap_cons, List.countP_append, ih, hsym, List.length_cons, List.count_cons, beq_true]
    omega

/-- Each symbol waits c, less 1 for a "1" with its two floored halves of an odd c. -/
theorem delayCount_flatMap_sym (c : Nat) (bs : List Bool) :
    ((bs.flatMap sym).map (delayCount c)).sum + bs.count true * (c % 2) = bs.length * c := by
  induction bs with
  | nil => simp
  | cons b bs ih =>
    rw [List.flatMap_cons, List.map_append, List.sum_append, List.length_cons, Nat.add_mul]
    cases b with
    | false =>
      have hsym : ((sym false).map (delayCount c)).sum = c := by
        simp [sym, sym0, delayCount, codeTgl, codeWaith, codeWaitf]
      have hones : (false :: bs).count true = bs.count true := by simp
      rw [hsym, hones]
      omega
    | true =>
      have hsym : ((sym true).map (delayCount c)).sum = c / 2 + c / 2 := by
        simp [sym, sym1, delayCount, codeTgl, codeWaith, codeWaitf]
      rw [hsym, List.count_cons_self, Nat.add_mul]
      omega

/-- The guard waits four full bit periods. -/
theorem delayCount_guardOps (c : Nat) : (guardOps.map (delayCount c)).sum = 4 * c := by
  simp [guardOps, guardBits, delayCount, codeDrvlo, codeWaith, codeWaitf]
  omega

/-- R79's length. -/
theorem length_txProgram_popcount (d : Payload) : (txProgram d).length = 197 + 2 * popcount d := by
  rw [length_txProgram, count_payloadBits]

/-- R79's toggles. -/
theorem countP_tgl_txProgram (d : Payload) :
    (txProgram d).countP (fun u => decide (u = codeTgl)) = 96 + popcount d := by
  have hguard : guardOps.countP (fun u => decide (u = codeTgl)) = 0 := rfl
  rw [txProgram_eq, List.countP_append, hguard, countP_tgl_flatMap_sym, length_frameSymbols, count_true_frameSymbols]
  omega

/-- R79's delay iterations. -/
theorem delayCount_txProgram (d : Payload) (c : Nat) :
    ((txProgram d).map (delayCount c)).sum = if c % 2 = 0 then 69 * c else 69 * c - 31 - popcount d := by
  have hsyms := delayCount_flatMap_sym c (frameSymbols d)
  rw [length_frameSymbols, count_true_frameSymbols] at hsyms
  rw [txProgram_eq, List.map_append, List.sum_append, delayCount_guardOps]
  split
  · next heven => rw [heven] at hsyms; omega
  · next hodd =>
    rw [Nat.mod_two_ne_zero.mp hodd] at hsyms
    omega

/-- Settles O14: the three counts of the 65 symbols and the guard. -/
theorem frameCountsFollowPopcount : Obligations.FrameCountsFollowPopcount := by
  unfold Obligations.FrameCountsFollowPopcount
  intro d c _
  exact ⟨length_txProgram_popcount d, countP_tgl_txProgram d, delayCount_txProgram d c⟩

end Sys2Proof.Machine
end

section
/-! PROOFS. What a sequence of micro-operations does to the line, and the sequencer's steps through a frame with the
turns of the other agents between them (`41_transmitter.md` R70, R79 to R82, `60_exceptions.md` R113). -/

namespace Sys2Proof.Machine

/-- The transmit line as the micro-operations see it: its level, the time and the events so far. -/
structure TxLine where
  level : Level
  time : Nat
  trace : List LineEvent

/-- The transmit line of a state. -/
def State.line (s : State) : TxLine := ⟨s.txRun.level, s.txRun.time, s.txTrace⟩

/-- Write the transmit line. -/
def State.withLine (s : State) (x : TxLine) : State :=
  { s with txRun := { s.txRun with level := x.level, time := x.time }, txTrace := x.trace }

/-- Drive the line now. -/
def TxLine.drive (x : TxLine) (level : Level) : TxLine := ⟨level, x.time, x.trace ++ [.drive x.time level]⟩

/-- Let this many delay iterations pass. -/
def TxLine.wait (x : TxLine) (n : Nat) : TxLine := { x with time := x.time + n * cyclesPerCount }

/-- What a micro-operation does to the line (`41_transmitter.md` R75 to R78). -/
def lineMicro (cfg : TxConfig) (x : TxLine) (u : MicroCode) : TxLine :=
  if u = codeTgl then x.drive (!x.level)
  else if u = codeWaith then x.wait cfg.halfCount.toNat
  else if u = codeWaitf then x.wait cfg.cyclesPerBit.toNat
  else x.drive false

/-- What a sequence of micro-operations does to the line. -/
def lineAfter (cfg : TxConfig) (x : TxLine) (us : List MicroCode) : TxLine := us.foldl (lineMicro cfg) x

/-- A micro-operation writes the line and nothing else. -/
theorem exec_decodeMicro (u : MicroCode) (s : State) :
    exec (decodeMicro u) s = .next (s.withLine (lineMicro s.txCfg s.line u)) := by
  unfold decodeMicro lineMicro
  split_ifs <;> rfl

/-- One sequence after another. -/
theorem lineAfter_append (cfg : TxConfig) (x : TxLine) (us vs : List MicroCode) :
    lineAfter cfg x (us ++ vs) = lineAfter cfg (lineAfter cfg x us) vs := List.foldl_append

section Advance

variable {s : State}

/-- Inside a program `tx_upc` moves on without wrapping. -/
theorem upc_succ_toNat {d : Payload} {upc : BitVec 9} (h : upc.toNat < (txProgram d).length) :
    (upc + 1#9).toNat = upc.toNat + 1 := by
  have hlen := txProgram_length_bounds d
  rw [BitVec.toNat_add, BitVec.toNat_ofNat]
  omega

/-- The advance before the end of the program. -/
theorem State.txAdvance_of_ne (h : (s.txRun.upc + 1#9).toNat ≠ (txProgram s.txRun.word).length) :
    s.txAdvance = s.withTxRun { s.txRun with upc := s.txRun.upc + 1#9 } := by
  rw [State.txAdvance_eq, if_neg h]
  rfl

/-- The advance to the end of the program. -/
theorem State.txAdvance_of_eq (h : (s.txRun.upc + 1#9).toNat = (txProgram s.txRun.word).length) :
    s.txAdvance = s.withTxRun { s.txRun with upc := s.txRun.upc + 1#9, busy := false } := by
  rw [State.txAdvance_eq, if_pos h]
  rfl

/-- A busy sequencer's turn: the micro-operation's effect on the line, then the advance. -/
theorem step_txSequencer_eq {ts : List Turn} {u : MicroCode} (hs : ScheduleDecides s)
    (ht : s.turns = .txSequencer :: ts) (hb : s.txRun.busy = true) (hu : s.microAt = some u) :
    step s = .next ((s.withTurns ts).withLine (lineMicro s.txCfg s.line u)).txAdvance := by
  rw [step_txSequencer_of_busy hs ht hb hu, exec_decodeMicro]
  rfl

end Advance

/-- Settles O13: the idle sequencer's turn passes, and the busy one's is its micro-operation and the advance. -/
theorem sequencerStepsThroughProgram : Obligations.SequencerStepsThroughProgram := by
  unfold Obligations.SequencerStepsThroughProgram
  intro s ts hs ht
  refine ⟨fun hidle => step_txSequencer_of_idle hs ht hidle, fun u hbusy hu => ?_⟩
  have hnext := upc_succ_toNat (txProgram_upc_lt hu)
  refine ⟨_, _, exec_decodeMicro u (s.withTurns ts), step_txSequencer_eq hs ht hbusy hu, hnext, ?_, rfl⟩
  change (if (s.txRun.upc + 1#9).toNat = (txProgram s.txRun.word).length then false else s.txRun.busy) = _
  rw [hnext, hbusy]
  by_cases hend : s.txRun.upc.toNat + 1 = (txProgram s.txRun.word).length <;> simp [hend]

/-- A frame is being emitted and nothing stands in its way. -/
structure Sending (s : State) : Prop where
  unmarked : s.mark = none
  notReading : s.readHeld = false
  busy : s.txRun.busy = true

/-- The schedule decides the next step of a frame. -/
theorem Sending.scheduleDecides {s : State} (h : Sending s) : ScheduleDecides s :=
  ⟨h.unmarked, by simp [h.notReading]⟩

/-- The state after the sequencer has run these micro-operations of its program, with this decoder and these turns
left. -/
def State.afterMicros (s : State) (us : List MicroCode) (dec : Decoder) (ts : List Turn) : State :=
  let x := lineAfter s.txCfg s.line us
  { s with
    txRun := { s.txRun with level := x.level, time := x.time, upc := s.txRun.upc + BitVec.ofNat 9 us.length },
    txTrace := x.trace, dec := dec, turns := ts }

/-- The state after the whole program: the sequencer is idle again. -/
def State.afterFrame (s : State) (dec : Decoder) (ts : List Turn) : State :=
  let t := s.afterMicros (txProgram s.txRun.word) dec ts
  t.withTxRun { t.txRun with busy := false }

/-! The fields after a whole frame. -/

section AfterFrame

variable (s : State) (dec : Decoder) (ts : List Turn)

@[simp] theorem State.afterFrame_txRun : (s.afterFrame dec ts).txRun = { s.txRun with
    busy := false,
    level := (lineAfter s.txCfg s.line (txProgram s.txRun.word)).level,
    time := (lineAfter s.txCfg s.line (txProgram s.txRun.word)).time,
    upc := s.txRun.upc + BitVec.ofNat 9 (txProgram s.txRun.word).length } := by
  simp [State.afterFrame, State.afterMicros]
@[simp] theorem State.afterFrame_txTrace :
    (s.afterFrame dec ts).txTrace = (lineAfter s.txCfg s.line (txProgram s.txRun.word)).trace := by
  simp [State.afterFrame, State.afterMicros]
@[simp] theorem State.afterFrame_txCfg : (s.afterFrame dec ts).txCfg = s.txCfg := by
  simp [State.afterFrame, State.afterMicros]
@[simp] theorem State.afterFrame_rxCfg : (s.afterFrame dec ts).rxCfg = s.rxCfg := by
  simp [State.afterFrame, State.afterMicros]
@[simp] theorem State.afterFrame_readHeld : (s.afterFrame dec ts).readHeld = s.readHeld := by
  simp [State.afterFrame, State.afterMicros]
@[simp] theorem State.afterFrame_mark : (s.afterFrame dec ts).mark = s.mark := by
  simp [State.afterFrame, State.afterMicros]
@[simp] theorem State.afterFrame_results : (s.afterFrame dec ts).results = s.results := by
  simp [State.afterFrame, State.afterMicros]
@[simp] theorem State.afterFrame_hostProg : (s.afterFrame dec ts).hostProg = s.hostProg := by
  simp [State.afterFrame, State.afterMicros]
@[simp] theorem State.afterFrame_turns : (s.afterFrame dec ts).turns = ts := by
  simp [State.afterFrame, State.afterMicros]
@[simp] theorem State.afterFrame_draws : (s.afterFrame dec ts).draws = s.draws := by
  simp [State.afterFrame, State.afterMicros]

end AfterFrame

/-- A frame ends with the host free, unless an RXREAD holds it. -/
theorem State.afterFrame_hostHold (s : State) (dec : Decoder) (ts : List Turn) :
    (s.afterFrame dec ts).hostHold = s.readHeld := by
  simp [State.hostHold]

/-- Micro-operations run one part after the other. -/
theorem State.afterMicros_append (s : State) (us vs : List MicroCode) (dec dec' : Decoder) (ts ts' : List Turn) :
    (s.afterMicros us dec ts).afterMicros vs dec' ts' = s.afterMicros (us ++ vs) dec' ts' := by
  simp only [State.afterMicros, lineAfter_append, List.length_append, BitVec.ofNat_add, BitVec.add_assoc]
  rfl

/-- No micro-operation leaves the frame's state as it is, decoder and schedule apart. -/
theorem State.afterMicros_nil (s : State) (dec : Decoder) (ts : List Turn) :
    s.afterMicros [] dec ts = { s with dec := dec, turns := ts } := by
  simp [State.afterMicros, lineAfter, State.line]

/-- A frame goes on after micro-operations that do not end it. -/
theorem Sending.afterMicros {s : State} (h : Sending s) (us : List MicroCode) (dec : Decoder) (ts : List Turn) :
    Sending (s.afterMicros us dec ts) :=
  ⟨h.unmarked, h.notReading, h.busy⟩

/-- During a frame a turn of the host or of the tick source leaves the transmitter alone (`60_exceptions.md` R113). -/
theorem Sending.step_of_other {s : State} {turn : Turn} {ts : List Turn} (h : Sending s) (ht : s.turns = turn :: ts)
    (hrst : turn ≠ .rst) (hseq : turn ≠ .txSequencer) : ∃ dec, step s = .next (s.afterMicros [] dec ts) := by
  simp only [State.afterMicros_nil]
  cases turn with
  | rst => exact absurd rfl hrst
  | txSequencer => exact absurd rfl hseq
  | host => exact ⟨s.dec, step_host_of_held h.scheduleDecides ht (State.hostHold_of_busy h.busy)⟩
  | tickSource level =>
    cases hen : s.rxCfg.tmrEn with
    | true => exact ⟨decoderTick level s.dec, step_tickSource_of_enabled h.scheduleDecides ht hen⟩
    | false => exact ⟨s.dec, step_tickSource_of_disabled h.scheduleDecides ht hen⟩

/-- The sequencer stands between two parts of its program. -/
structure AtSplit (s : State) (pre post : List MicroCode) : Prop where
  program : txProgram s.txRun.word = pre ++ post
  upc : s.txRun.upc = BitVec.ofNat 9 pre.length

/-- Every frame starts before its whole program. -/
theorem AtSplit.start {s : State} (h : s.txRun.upc = 0#9) : AtSplit s [] (txProgram s.txRun.word) := ⟨rfl, h⟩

namespace AtSplit

variable {s : State} {pre post us : List MicroCode} {u : MicroCode} {ts : List Turn}

/-- Running a part moves the split behind it. -/
theorem afterMicros (h : AtSplit s pre (us ++ post)) (dec : Decoder) (ts : List Turn) :
    AtSplit (s.afterMicros us dec ts) (pre ++ us) post := by
  refine ⟨h.program.trans (List.append_assoc pre us post).symm, ?_⟩
  rw [List.length_append, BitVec.ofNat_add, ← h.upc]
  rfl

/-- The index is the length of the part that has run. -/
theorem upc_toNat (h : AtSplit s pre post) : s.txRun.upc.toNat = pre.length := by
  have hlen := txProgram_length_bounds s.txRun.word
  rw [h.program, List.length_append] at hlen
  rw [h.upc, BitVec.toNat_ofNat]
  omega

/-- The next micro-operation is the first of the part to come. -/
theorem microAt (h : AtSplit s pre (u :: post)) : s.microAt = some u := by
  rw [State.microAt, h.upc_toNat, h.program]
  simp

/-- The index after the next micro-operation, against the program's length. -/
theorem upc_succ_toNat_eq_iff (h : AtSplit s pre (u :: post)) :
    (s.txRun.upc + 1#9).toNat = (txProgram s.txRun.word).length ↔ post = [] := by
  rw [upc_succ_toNat (txProgram_upc_lt h.microAt), h.upc_toNat, h.program, List.length_append, List.length_cons,
    ← List.length_eq_zero_iff]
  omega

/-- The sequencer's turn before the last micro-operation. -/
theorem step_inside (h : AtSplit s pre (u :: post)) (hs : Sending s) (ht : s.turns = .txSequencer :: ts)
    (hpost : post ≠ []) : step s = .next (s.afterMicros [u] s.dec ts) := by
  have hne : (s.txRun.upc + 1#9).toNat ≠ (txProgram s.txRun.word).length := mt h.upc_succ_toNat_eq_iff.mp hpost
  rw [step_txSequencer_eq hs.scheduleDecides ht hs.busy h.microAt]
  exact congrArg _ (State.txAdvance_of_ne hne)

/-- The sequencer's turn at the last micro-operation. -/
theorem step_last (h : AtSplit s pre [u]) (hs : Sending s) (ht : s.turns = .txSequencer :: ts) :
    step s = .next ((s.afterMicros [u] s.dec ts).withTxRun
      { (s.afterMicros [u] s.dec ts).txRun with busy := false }) := by
  have heq : (s.txRun.upc + 1#9).toNat = (txProgram s.txRun.word).length := h.upc_succ_toNat_eq_iff.mpr rfl
  rw [step_txSequencer_eq hs.scheduleDecides ht hs.busy h.microAt]
  exact congrArg _ (State.txAdvance_of_eq heq)

/-- A frame's step on any turn but a reset: the sequencer's runs the next micro-operation, another's runs none. -/
theorem step_of_turn {turn : Turn} (h : AtSplit s pre (us ++ post)) (hs : Sending s) (ht : s.turns = turn :: ts)
    (hrst : turn ≠ .rst) (hnext : turn = .txSequencer → us ≠ []) (hpost : post ≠ []) :
    ∃ vs ws dec, us = vs ++ ws ∧ vs.length = [turn].count .txSequencer ∧
      step s = .next (s.afterMicros vs dec ts) := by
  by_cases hseq : turn = .txSequencer
  · subst hseq
    obtain ⟨u, ws, rfl⟩ := List.exists_cons_of_ne_nil (hnext rfl)
    exact ⟨[u], ws, s.dec, rfl, by simp, h.step_inside hs ht (by simp [hpost])⟩
  · obtain ⟨dec, hstep⟩ := hs.step_of_other ht hrst hseq
    exact ⟨[], us, dec, rfl, by simp [hseq], hstep⟩

/-- A frame under any turns without a reset: as many micro-operations run as the sequencer has turns, as long as they
are not the last ones. -/
theorem runSteps_turns (h : AtSplit s pre (us ++ post)) (hs : Sending s) {rest : List Turn}
    (ht : s.turns = ts ++ rest) (hrst : Turn.rst ∉ ts) (hcount : ts.count .txSequencer = us.length)
    (hpost : post ≠ []) : ∃ dec, runSteps ts.length s = .next (s.afterMicros us dec rest) := by
  induction ts generalizing s pre us with
  | nil =>
    obtain rfl : us = [] := List.length_eq_zero_iff.mp hcount.symm
    obtain rfl : s.turns = rest := ht
    exact ⟨s.dec, by rw [State.afterMicros_nil]; rfl⟩
  | cons turn ts ih =>
    obtain ⟨hturn, hrest⟩ : Turn.rst ≠ turn ∧ Turn.rst ∉ ts := by simpa using hrst
    rw [List.cons_append] at ht
    obtain ⟨vs, ws, dec, rfl, hvs, hstep⟩ :=
      h.step_of_turn hs ht hturn.symm (by rintro rfl rfl; simp at hcount) hpost
    have hws : ts.count .txSequencer = ws.length := by
      rw [← List.singleton_append, List.count_append, List.length_append] at hcount
      omega
    rw [List.append_assoc] at h
    obtain ⟨dec', hrun⟩ := ih (h.afterMicros dec (ts ++ rest)) (hs.afterMicros vs _ _) rfl hrest hws
    exact ⟨dec', by rw [List.length_cons, runSteps_succ_of_next hstep, hrun, State.afterMicros_append]⟩

end AtSplit

/-- A frame from its start to its end, the sequencer's last turn named. -/
theorem runSteps_frame {s : State} {ts rest : List Turn} (hs : Sending s) (hupc : s.txRun.upc = 0#9)
    (hrst : Turn.rst ∉ ts) (hcount : ts.count .txSequencer + 1 = (txProgram s.txRun.word).length)
    (ht : s.turns = ts ++ .txSequencer :: rest) :
    ∃ dec, runSteps (ts.length + 1) s = .next (s.afterFrame dec rest) := by
  obtain ⟨us, u, hprog⟩ : ∃ us u, txProgram s.txRun.word = us ++ [u] :=
    ⟨_, _, by rw [txProgram_eq]; exact (List.append_assoc _ guardOps.dropLast [codeWaitf]).symm⟩
  have hstart : AtSplit s [] (us ++ [u]) := hprog ▸ AtSplit.start hupc
  rw [hprog, List.length_append, List.length_singleton] at hcount
  obtain ⟨dec, hrun⟩ := hstart.runSteps_turns hs ht hrst (by omega) (by simp)
  have hlast := (hstart.afterMicros dec (.txSequencer :: rest)).step_last (hs.afterMicros _ _ _) rfl
  refine ⟨dec, ?_⟩
  rw [runSteps_add 1 hrun, runSteps_succ_of_next hlast, runSteps_zero, State.afterMicros_append, State.afterFrame,
    hprog]
  rfl

end Sys2Proof.Machine
end

section
/-! PROOFS. The level, the time and the events of a frame (`41_transmitter.md` R72 to R74 and R79 to R81). -/

namespace Sys2Proof.Machine

/-- The events of a symbol from an instant and a level, the second toggle of a "1" after `half` cycles. -/
def toggleEvents (half t : Nat) (x : Level) (b : Bool) : List LineEvent :=
  .drive t (!x) :: if b then [.drive (t + half) x] else []

/-- The events of a sequence of symbols are those of the first and then those of the rest. -/
theorem symbolEvents_cons (cell half t : Nat) (x : Level) (b : Bool) (bs : List Bool) :
    symbolEvents cell half t x (b :: bs) =
      toggleEvents half t x b ++ symbolEvents cell half (t + cell) (levelAfter b x) bs := rfl

/-- The level at the end is the first one, complemented for an odd number of "0" symbols. -/
theorem levelAtEnd_eq_xor (bs : List Bool) (x : Level) :
    levelAtEnd bs x = xor x (decide (bs.count false % 2 = 1)) := by
  induction bs generalizing x with
  | nil => simp [levelAtEnd]
  | cons b bs ih =>
    have hrest : levelAtEnd (b :: bs) x = levelAtEnd bs (levelAfter b x) := rfl
    rw [hrest, ih]
    cases b with
    | true => simp [levelAfter]
    | false =>
      rw [List.count_cons_self]
      have hparity : decide ((bs.count false + 1) % 2 = 1) = !decide (bs.count false % 2 = 1) := by
        rw [← decide_not, decide_eq_decide]
        omega
      rw [hparity]
      simp [levelAfter]

section Line

variable {cfg : TxConfig}

/-- A symbol toggles once for a "0" and twice for a "1", with a full or two half bit periods of waits. -/
theorem lineAfter_sym (cfg : TxConfig) (b : Bool) (x : TxLine) : lineAfter cfg x (sym b) =
    { level := levelAfter b x.level,
      time := x.time + (if b then 2 * cfg.halfCount.toNat else cfg.cyclesPerBit.toNat) * cyclesPerCount,
      trace := x.trace ++ toggleEvents (cfg.halfCount.toNat * cyclesPerCount) x.time x.level b } := by
  cases b with
  | false => rfl
  | true =>
    simp [lineAfter, lineMicro, sym, sym1, codeTgl, codeWaith, TxLine.drive, TxLine.wait, levelAfter, toggleEvents,
      Nat.two_mul, Nat.add_mul, Nat.add_assoc]

/-- The level after a sequence of symbols. -/
theorem lineAfter_flatMap_sym_level (cfg : TxConfig) (bs : List Bool) (x : TxLine) :
    (lineAfter cfg x (bs.flatMap sym)).level = levelAtEnd bs x.level := by
  induction bs generalizing x with
  | nil => rfl
  | cons b bs ih =>
    rw [List.flatMap_cons, lineAfter_append, ih, lineAfter_sym]
    rfl

/-- With an even count every symbol takes a full bit period, so the line follows `symbolEvents`. -/
theorem lineAfter_flatMap_sym (heven : 2 * cfg.halfCount.toNat = cfg.cyclesPerBit.toNat) (bs : List Bool) (x : TxLine) :
    lineAfter cfg x (bs.flatMap sym) =
      { level := levelAtEnd bs x.level,
        time := x.time + bs.length * (cfg.cyclesPerBit.toNat * cyclesPerCount),
        trace := x.trace ++ symbolEvents (cfg.cyclesPerBit.toNat * cyclesPerCount)
          (cfg.halfCount.toNat * cyclesPerCount) x.time x.level bs } := by
  induction bs generalizing x with
  | nil => simp [lineAfter, levelAtEnd, symbolEvents]
  | cons b bs ih =>
    rw [List.flatMap_cons, lineAfter_append, ih, lineAfter_sym, heven, ite_self, symbolEvents_cons, List.append_assoc,
      List.length_cons, Nat.add_one_mul, Nat.add_assoc, Nat.add_comm (bs.length * _)]
    rfl

/-- The guard drives the line low and waits. -/
theorem lineAfter_guardOps (cfg : TxConfig) (x : TxLine) : lineAfter cfg x guardOps =
    ((((x.drive false).wait cfg.cyclesPerBit.toNat).wait cfg.cyclesPerBit.toNat).wait cfg.cyclesPerBit.toNat).wait
      cfg.cyclesPerBit.toNat := rfl

/-- The time moves on by `K` cycles for each delay iteration of a micro-operation. -/
theorem lineMicro_time (hhalf : cfg.halfCount.toNat = cfg.cyclesPerBit.toNat / 2) (x : TxLine) (u : MicroCode) :
    (lineMicro cfg x u).time = x.time + 4 * delayCount cfg.cyclesPerBit.toNat u := by
  have hcodes : ∀ u : MicroCode, u = codeTgl ∨ u = codeWaith ∨ u = codeWaitf ∨ u = codeDrvlo := by decide
  rcases hcodes u with rfl | rfl | rfl | rfl
  · rfl
  · change x.time + cfg.halfCount.toNat * 4 = x.time + 4 * (cfg.cyclesPerBit.toNat / 2)
    rw [hhalf, Nat.mul_comm]
  · change x.time + cfg.cyclesPerBit.toNat * 4 = x.time + 4 * cfg.cyclesPerBit.toNat
    rw [Nat.mul_comm]
  · rfl

/-- The time moves on by `K` cycles for each delay iteration of a sequence. -/
theorem lineAfter_time (hhalf : cfg.halfCount.toNat = cfg.cyclesPerBit.toNat / 2) (us : List MicroCode) (x : TxLine) :
    (lineAfter cfg x us).time = x.time + 4 * (us.map (delayCount cfg.cyclesPerBit.toNat)).sum := by
  induction us generalizing x with
  | nil => rfl
  | cons u us ih =>
    have hrest : lineAfter cfg x (u :: us) = lineAfter cfg (lineMicro cfg x u) us := rfl
    rw [hrest, ih, lineMicro_time hhalf, List.map_cons, List.sum_cons, Nat.mul_add, Nat.add_assoc]

/-- A frame leaves the line low. -/
theorem lineAfter_txProgram_level (cfg : TxConfig) (d : Payload) (x : TxLine) :
    (lineAfter cfg x (txProgram d)).level = false := by
  rw [txProgram_eq, lineAfter_append, lineAfter_guardOps]
  rfl

/-- The time of a whole frame (`41_transmitter.md` R79). -/
theorem lineAfter_txProgram_time (hhalf : cfg.halfCount.toNat = cfg.cyclesPerBit.toNat / 2) (d : Payload) (x : TxLine) :
    (lineAfter cfg x (txProgram d)).time = x.time +
      if cfg.cyclesPerBit.toNat % 2 = 0 then 4 * (69 * cfg.cyclesPerBit.toNat)
      else 4 * (69 * cfg.cyclesPerBit.toNat - 31 - popcount d) := by
  rw [lineAfter_time hhalf, delayCount_txProgram, mul_ite]

/-- The events of a whole frame with an even count (`41_transmitter.md` R81). -/
theorem lineAfter_txProgram_trace (heven : cfg.cyclesPerBit.toNat % 2 = 0)
    (hhalf : cfg.halfCount.toNat = cfg.cyclesPerBit.toNat / 2) (d : Payload) {x : TxLine} (hx : x.time = 0) :
    (lineAfter cfg x (txProgram d)).trace = x.trace ++ frameEvents cfg.cyclesPerBit.toNat d x.level := by
  have hdouble : 2 * cfg.halfCount.toNat = cfg.cyclesPerBit.toNat := by omega
  rw [txProgram_eq, lineAfter_append, lineAfter_flatMap_sym hdouble, lineAfter_guardOps, length_frameSymbols, hx, hhalf,
    Nat.zero_add, frameEvents, ← List.append_assoc]
  rfl

end Line

/-- The 65 symbols are 192 micro-operations and two more for every 1 bit. -/
theorem length_flatMap_sym_frameSymbols (d : Payload) :
    ((frameSymbols d).flatMap sym).length = 192 + 2 * popcount d := by
  rw [length_flatMap_sym, length_frameSymbols, count_true_frameSymbols]
  omega

/-- The symbols of a frame complement the level for an odd number of 1 bits (`41_transmitter.md` R80). -/
theorem levelAtEnd_frameSymbols (d : Payload) (x : Level) :
    levelAtEnd (frameSymbols d) x = xor x (decide (popcount d % 2 = 1)) := by
  have hcount := count_false_frameSymbols d
  have hparity : (frameSymbols d).count false % 2 = popcount d % 2 := by omega
  rw [levelAtEnd_eq_xor, hparity]

/-- Settles O17: the sequencer's turns up to the split between the symbols and the guard. -/
theorem lineLevelBeforeGuardFollowsParity : Obligations.LineLevelBeforeGuardFollowsParity := by
  unfold Obligations.LineLevelBeforeGuardFollowsParity
  rintro d s rest hmark hread hbusy rfl hupc hturns
  have hs : Sending s := ⟨hmark, hread, hbusy⟩
  have hsplit : AtSplit s [] ((frameSymbols s.txRun.word).flatMap sym ++ guardOps) :=
    txProgram_eq s.txRun.word ▸ AtSplit.start hupc
  obtain ⟨dec, hrun⟩ := hsplit.runSteps_turns hs hturns (by simp)
    (by rw [List.count_replicate_self, length_flatMap_sym_frameSymbols]) (by simp [guardOps])
  rw [List.length_replicate] at hrun
  refine ⟨_, hrun, (hsplit.afterMicros dec rest).microAt, ?_⟩
  calc (lineAfter s.txCfg s.line ((frameSymbols s.txRun.word).flatMap sym)).level
      = levelAtEnd (frameSymbols s.txRun.word) s.txRun.level := lineAfter_flatMap_sym_level _ _ _
    _ = xor s.txRun.level (decide (popcount s.txRun.word % 2 = 1)) := levelAtEnd_frameSymbols _ _

/-- Settles O15: the frame's run under any turns, then the level, the time and the index of the whole program. -/
theorem frameCompletesUnderInterleavedTurns : Obligations.FrameCompletesUnderInterleavedTurns := by
  unfold Obligations.FrameCompletesUnderInterleavedTurns
  rintro d s ts rest hmark hread hhalf - hbusy rfl hupc htime hrst hcount hturns
  obtain ⟨dec, hrun⟩ := runSteps_frame ⟨hmark, hread, hbusy⟩ hupc hrst hcount hturns
  have htotal := lineAfter_txProgram_time hhalf s.txRun.word s.line
  have hstart : s.line.time = 0 := htime
  rw [hstart, Nat.zero_add] at htotal
  refine ⟨s.afterFrame dec rest, hrun, ?run, ?frame⟩
  case run =>
    rw [State.afterFrame_txRun, lineAfter_txProgram_level, htotal, hupc, BitVec.zero_add, length_txProgram_popcount]
  case frame => simp [State.afterFrame_hostHold, hread, hmark]

/-- Settles O16: the schedule is the sequencer's turns alone, and the whole program has the events of R81. -/
theorem evenFrameHasItsTimedTrace : Obligations.EvenFrameHasItsTimedTrace := by
  unfold Obligations.EvenFrameHasItsTimedTrace
  rintro d s rest hmark hread heven hhalf hbusy rfl hupc htime hturns
  obtain ⟨n, hlen⟩ : ∃ n, (txProgram s.txRun.word).length = n + 1 := 
    Nat.exists_eq_add_one.mpr (by have hbounds := txProgram_length_bounds s.txRun.word; omega)
  rw [hlen, List.replicate_succ', List.append_assoc, List.singleton_append] at hturns
  obtain ⟨dec, hrun⟩ := runSteps_frame ⟨hmark, hread, hbusy⟩ hupc (by simp) (by simp [hlen]) hturns
  rw [List.length_replicate, ← hlen] at hrun
  have hstart : s.line.time = 0 := htime
  have htotal := lineAfter_txProgram_time hhalf s.txRun.word s.line
  rw [hstart, if_pos heven] at htotal
  refine ⟨s.afterFrame dec rest, hrun, ?trace, ?time⟩
  case trace => rw [State.afterFrame_txTrace, lineAfter_txProgram_trace heven hhalf _ hstart]; rfl
  case time =>
    simp only [State.afterFrame_txRun, htotal]
    omega

end Sys2Proof.Machine
end

section
/-! PROOFS. RXBEGIN's writes and the turns that pass (`42_receiver_config.md` R84 and R85, `41_transmitter.md` R69 and
R70, `44_accessors.md` R105). -/

namespace Sys2Proof.Machine

/-- The search's answers fit their registers: `divider` has 11 bits and `reload` 16 (`10_state.md` R15). -/
theorem rxConfigOf_counts_toNat (clock : Nat) (pin : PinId) (rate : Rate) :
    (rxConfigOf clock pin rate).divider.toNat = (selectTick clock timerMax rate.toNat).1 ∧
    (rxConfigOf clock pin rate).reload.toNat = (selectTick clock timerMax rate.toNat).2 := by
  have hsmall : ∀ d ∈ dividers, d < 2 ^ 11 := by decide
  have hdivider := hsmall _ (selectTick_divider_mem clock timerMax rate.toNat)
  have hreload : (selectTick clock timerMax rate.toNat).2 < 2 ^ 16 :=
    Nat.lt_succ_of_le (selectTick_reload_le clock timerMax rate.toNat)
  exact ⟨Nat.mod_eq_of_lt hdivider, Nat.mod_eq_of_lt hreload⟩

/-- Settles O19: by the three answers of the check on the rate. -/
theorem rxbeginStartsReceiver : Obligations.RxbeginStartsReceiver := by
  unfold Obligations.RxbeginStartsReceiver
  intro pin rate s
  refine ⟨fun hzero => ?zero, fun hrate hreload => ?tooHigh, fun hrate hreload => ?accepted⟩
  case zero => exact exec_rxbegin_of_refusal pin (by simp [hzero])
  case tooHigh => exact exec_rxbegin_of_refusal pin (rxRateRefusal_of_reload_zero (Nat.ne_of_gt hrate) hreload)
  case accepted =>
    have haccepted := rxRateRefusal_eq_none_iff.mpr ⟨Nat.ne_of_gt hrate, Nat.ne_of_gt hreload⟩
    obtain ⟨hdivider, hcount⟩ := rxConfigOf_counts_toNat s.coreClockHz.val pin rate
    exact ⟨_, exec_rxbegin_of_accepted pin haccepted, rfl, rfl, rfl, hdivider, hcount, rfl, rfl, rfl⟩

/-- The turn of a host with no further command passes, whether the host is held or free. -/
theorem step_host_of_no_command {s : State} {ts : List Turn} (hs : ScheduleDecides s) (ht : s.turns = .host :: ts)
    (hp : s.hostProg = []) : step s = .next (s.withTurns ts) :=
  step_of_quiet hs ht (by simp [fetchTurn, fetchCommand, hp])

/-- Settles O48: by the agent whose turn it is. -/
theorem agentsWithNoStepLetTheirTurnPass : Obligations.AgentsWithNoStepLetTheirTurnPass := by
  unfold Obligations.AgentsWithNoStepLetTheirTurnPass
  rintro s t ts hs ht (⟨⟨level, rfl⟩, hoff⟩ | ⟨rfl, hheld | hempty⟩ | ⟨rfl, hidle⟩)
  case inl => exact step_tickSource_of_disabled hs ht hoff
  case inr.inl.inl => exact step_host_of_held hs ht hheld
  case inr.inl.inr => exact step_host_of_no_command hs ht hempty
  case inr.inr => exact step_txSequencer_of_idle hs ht hidle

end Sys2Proof.Machine
end

section
/-! PROOFS. One tick of the decoder, branch by branch (`43_decoder.md` R86 to R95): what each tick answers, and the
statements about one TICK. -/

namespace Sys2Proof.Machine

/-- The decoder compares this tick's level with the previous one (`43_decoder.md` R89). -/
structure Sampling (c : Decoder) : Prop where
  notDone : c.status ≠ .done
  notInit : c.status ≠ .init

/-- A tick at which the line has changed, the `t`-th since the cell began (`43_decoder.md` R89). -/
structure TransitionAt (c : Decoder) (level : Level) (t : Nat) : Prop where
  sampling : Sampling c
  changed : level ≠ c.previousLevel
  count : t = min (c.ticksSinceTransition.toNat + 1) 255

/-- What the sampling of a transition writes, `n` transitions of the cell counted (`43_decoder.md` R89). -/
def Decoder.sampled (c : Decoder) (level : Level) (t : Nat) (n : BitVec 2) : Decoder :=
  { c with previousLevel := level, ticksSinceTransition := BitVec.ofNat 8 t, transitionsThisCell := n }

/-- TICK runs the decoder and writes nothing else (`43_decoder.md` R86). -/
theorem exec_tick (level : Level) (s : State) :
    exec (.tick level) s = .next { s with dec := decoderTick level s.dec } := rfl

/-- In DONE ticks are dropped (`43_decoder.md` R87). -/
theorem decoderTick_of_done {c : Decoder} (level : Level) (h : c.status = .done) : decoderTick level c = c := by
  simp [decoderTick, h]

/-- The tick in INIT (`43_decoder.md` R88). -/
theorem decoderTick_of_init {c : Decoder} (level : Level) (h : c.status = .init) :
    decoderTick level c = initTick level := by
  simp [decoderTick, h]

/-- The tick in any other status (`43_decoder.md` R89). -/
theorem decoderTick_of_sampling {c : Decoder} (level : Level) (h : Sampling c) :
    decoderTick level c = sampleLine level c := by
  rcases decoderTick_cases level c with ⟨hdone, -⟩ | ⟨hinit, -⟩ | ⟨-, -, he⟩
  · exact absurd hdone h.notDone
  · exact absurd hinit h.notInit
  · exact he

/-- The tick counter saturates at 255 (`43_decoder.md` R89, D7). -/
theorem satInc_eq_ofNat (v : BitVec 8) : satInc v = BitVec.ofNat 8 (min (v.toNat + 1) 255) := by
  have hsat := satInc_toNat v
  apply BitVec.eq_of_toNat_eq
  rw [BitVec.toNat_ofNat]
  omega

/-- A tick without a transition counts (`43_decoder.md` R89). -/
theorem decoderTick_silent {c : Decoder} (h : Sampling c) : decoderTick c.previousLevel c =
    { c with ticksSinceTransition := BitVec.ofNat 8 (min (c.ticksSinceTransition.toNat + 1) 255) } := by
  rw [decoderTick_of_sampling _ h, sampleLine_silent, satInc_eq_ofNat]

/-! The two symbols by status, without the counters that the end of a cell clears. -/

/-- The end of a "0" symbol (`43_decoder.md` R91). -/
theorem zeroSymbol_eq (c : Decoder) : zeroSymbol c =
    if c.status = .sync then
      { c with status := .reading, bitsReceived := 0#8, ticksSinceTransition := 0#8, transitionsThisCell := 0#2 }
    else if c.status = .reading then
      { c with status := if 32 ≤ (c.bitsReceived.toNat + 1) % 256 then .done else .reading,
               shiftRegister := BitVec.ofNat 32 (c.shiftRegister.toNat * 2),
               bitsReceived := c.bitsReceived + 1#8, ticksSinceTransition := 0#8, transitionsThisCell := 0#2 }
    else
      { c with status := .init, bitsReceived := c.bitsReceived + 1#8, ticksSinceTransition := 0#8,
               transitionsThisCell := 0#2 } := by
  unfold zeroSymbol
  split
  · next h => simp [h, endCell]
  · next h => simp [h, endCell, appendBit, shiftIn_eq_ofNat, dataW, wrapInc]
  · next hsync hreading => rw [if_neg hsync, if_neg hreading]; rfl

/-- The end of a "1" symbol (`43_decoder.md` R94). -/
theorem oneSymbol_eq (c : Decoder) : oneSymbol c =
    { c with
      status :=
        if c.status = .idle then (if 8 ≤ (c.bitsReceived.toNat + 1) % 256 then .sync else .idle)
        else if c.status = .sync then .sync
        else if c.status = .reading then (if 32 ≤ (c.bitsReceived.toNat + 1) % 256 then .done else .reading)
        else .init,
      shiftRegister :=
        if c.status = .reading then BitVec.ofNat 32 (c.shiftRegister.toNat * 2 + 1) else c.shiftRegister,
      bitsReceived := c.bitsReceived + 1#8, ticksSinceTransition := 0#8, transitionsThisCell := 0#2 } := by
  unfold oneSymbol
  split
  · next h => simp [h, endCell, preambleMin, wrapInc]
  · next h => simp [h, endCell, wrapInc]
  · next h => simp [h, endCell, appendBit, shiftIn_eq_ofNat, dataW, wrapInc]
  · next hidle hsync hreading =>
    simp only [if_neg hidle, if_neg hsync, if_neg hreading]
    rfl

/-- The four values of `transitionsThisCell`, the last two together (`43_decoder.md` R95). -/
theorem transitions_cases (n : BitVec 2) : n = 0#2 ∨ n = 1#2 ∨ 2 ≤ n.toNat := by
  revert n
  decide

/-- A discarded frame leaves INIT. -/
@[simp] theorem discardFrame_status (c : Decoder) : (discardFrame c).status = .init := rfl

section Transition

variable {c : Decoder} {level : Level} {t : Nat}

/-- A first transition in its cell (`43_decoder.md` R89). -/
theorem TransitionAt.first (h : TransitionAt c level t) (hn : c.transitionsThisCell = 0#2) :
    decoderTick level c = firstTransition (c.sampled level t 1#2) := by
  rw [decoderTick_of_sampling _ h.sampling, sampleLine_transition h.changed, satInc_eq_ofNat, ← h.count]
  simp [onTransition, hn, satInc, Decoder.sampled]

/-- A second transition in its cell (`43_decoder.md` R89). -/
theorem TransitionAt.second (h : TransitionAt c level t) (hn : c.transitionsThisCell = 1#2) :
    decoderTick level c = secondTransition (c.sampled level t 2#2) := by
  rw [decoderTick_of_sampling _ h.sampling, sampleLine_transition h.changed, satInc_eq_ofNat, ← h.count]
  simp [onTransition, hn, satInc, Decoder.sampled]

/-- A third transition in its cell (`43_decoder.md` R95). -/
theorem TransitionAt.third (h : TransitionAt c level t) (hn : 2 ≤ c.transitionsThisCell.toNat) :
    decoderTick level c = discardFrame (c.sampled level t 3#2) := by
  rw [decoderTick_of_sampling _ h.sampling, sampleLine_transition h.changed, satInc_eq_ofNat, ← h.count]
  rcases onTransition_cases { c with previousLevel := level, ticksSinceTransition := BitVec.ofNat 8 t } with
    ⟨hzero, -⟩ | ⟨hone, -⟩ | ⟨-, he⟩
  · simp_all
  · simp_all
  · exact he

/-- The count of a sampled transition fits its register. -/
theorem TransitionAt.sampled_ticks (h : TransitionAt c level t) (n : BitVec 2) :
    (c.sampled level t n).ticksSinceTransition.toNat = t := by
  have ht := h.count
  simp only [Decoder.sampled, BitVec.toNat_ofNat]
  omega

/-- R90: a first transition out of its window. -/
theorem TransitionAt.first_outOfWindow (h : TransitionAt c level t) (hn : c.transitionsThisCell = 0#2)
    (ht : t < 2 ∨ 14 < t) : decoderTick level c = discardFrame (c.sampled level t 1#2) := by
  have hticks := h.sampled_ticks 1#2
  rcases firstTransition_cases (c.sampled level t 1#2) with ⟨-, he⟩ | ⟨hlow, hhigh, -⟩ | ⟨hlow, hhigh, -⟩
  · exact (h.first hn).trans he
  · omega
  · omega

/-- R91: a long first transition. -/
theorem TransitionAt.first_long (h : TransitionAt c level t) (hn : c.transitionsThisCell = 0#2)
    (hlow : 7 ≤ t) (hhigh : t ≤ 14) : decoderTick level c = zeroSymbol (c.sampled level t 1#2) := by
  have hticks := h.sampled_ticks 1#2
  rcases firstTransition_cases (c.sampled level t 1#2) with ⟨hout, -⟩ | ⟨-, -, he⟩ | ⟨-, hshort, -⟩
  · omega
  · exact (h.first hn).trans he
  · omega

/-- R92: a short first transition. -/
theorem TransitionAt.first_short (h : TransitionAt c level t) (hn : c.transitionsThisCell = 0#2)
    (hlow : 2 ≤ t) (hhigh : t ≤ 6) : decoderTick level c = c.sampled level t 1#2 := by
  have hticks := h.sampled_ticks 1#2
  rcases firstTransition_cases (c.sampled level t 1#2) with ⟨hout, -⟩ | ⟨hlong, -, -⟩ | ⟨-, -, he⟩
  · omega
  · omega
  · exact (h.first hn).trans he

/-- R93: a second transition out of its window. -/
theorem TransitionAt.second_outOfWindow (h : TransitionAt c level t) (hn : c.transitionsThisCell = 1#2)
    (ht : t < 4 ∨ 14 < t) : decoderTick level c = discardFrame (c.sampled level t 2#2) := by
  have hticks := h.sampled_ticks 2#2
  rcases secondTransition_cases (c.sampled level t 2#2) with ⟨-, he⟩ | ⟨hlow, hhigh, -⟩
  · exact (h.second hn).trans he
  · omega

/-- R94: a second transition in its window. -/
theorem TransitionAt.second_inWindow (h : TransitionAt c level t) (hn : c.transitionsThisCell = 1#2)
    (hlow : 4 ≤ t) (hhigh : t ≤ 14) : decoderTick level c = oneSymbol (c.sampled level t 2#2) := by
  have hticks := h.sampled_ticks 2#2
  rcases secondTransition_cases (c.sampled level t 2#2) with ⟨hout, -⟩ | ⟨-, -, he⟩
  · omega
  · exact (h.second hn).trans he

/-- After `MAXL` ticks any transition discards the frame, whatever the cell has counted (`43_decoder.md` R90, R93 and
R95). -/
theorem TransitionAt.status_of_late (h : TransitionAt c level t) (ht : 14 < t) :
    (decoderTick level c).status = .init := by
  rcases transitions_cases c.transitionsThisCell with hn | hn | hn
  · rw [h.first_outOfWindow hn (.inr ht), discardFrame_status]
  · rw [h.second_outOfWindow hn (.inr ht), discardFrame_status]
  · rw [h.third hn, discardFrame_status]

/-! DONE is entered from READING only (`43_decoder.md` R86, "Flags written"). -/

/-- A "0" symbol ends a frame in READING only. -/
theorem reading_of_zeroSymbol_done (h : (zeroSymbol c).status = .done) : c.status = .reading := by
  by_contra hr
  by_cases hs : c.status = .sync <;> simp [zeroSymbol_eq, hr, hs] at h

/-- A "1" symbol ends a frame in READING only. -/
theorem reading_of_oneSymbol_done (h : (oneSymbol c).status = .done) : c.status = .reading := by
  by_contra hr
  simp only [oneSymbol_eq, hr, if_false] at h
  split_ifs at h

/-- A transition that enters DONE finds READING: it ended a symbol. -/
theorem TransitionAt.reading_of_done (h : TransitionAt c level t) (hd : (decoderTick level c).status = .done) :
    c.status = .reading := by
  have hkept : (c.sampled level t 1#2).status ≠ .done := h.sampling.notDone
  rcases transitions_cases c.transitionsThisCell with hn | hn | hn
  · rw [h.first hn] at hd
    rcases firstTransition_cases (c.sampled level t 1#2) with ⟨-, he⟩ | ⟨-, -, he⟩ | ⟨-, -, he⟩ <;> rw [he] at hd
    · simp at hd
    · exact reading_of_zeroSymbol_done (c := c.sampled level t 1#2) hd
    · exact absurd hd hkept
  · rw [h.second hn] at hd
    rcases secondTransition_cases (c.sampled level t 2#2) with ⟨-, he⟩ | ⟨-, -, he⟩ <;> rw [he] at hd
    · simp at hd
    · exact reading_of_oneSymbol_done (c := c.sampled level t 2#2) hd
  · rw [h.third hn] at hd
    simp at hd

end Transition

/-- A tick that enters DONE finds READING. -/
theorem reading_of_decoderTick_done {level : Level} {c : Decoder} (hc : c.status ≠ .done)
    (h : (decoderTick level c).status = .done) : c.status = .reading := by
  by_cases hinit : c.status = .init
  · simp [decoderTick_of_init level hinit, initTick] at h
  by_cases hl : level = c.previousLevel
  · rw [hl, decoderTick_silent ⟨hc, hinit⟩] at h
    exact absurd h hc
  · exact TransitionAt.reading_of_done ⟨⟨hc, hinit⟩, hl, rfl⟩ h

/-- Settles O21: TICK runs the decoder alone, and DONE is entered from READING and left by no tick. -/
theorem tickWritesDecoderOnly : Obligations.TickWritesDecoderOnly := by
  unfold Obligations.TickWritesDecoderOnly
  intro level s
  refine ⟨_, exec_tick level s, rfl, fun hnot => ?raises, fun hready => ?keeps⟩
  case raises =>
    have hstatus : s.dec.status ≠ .done := by simpa [State.dataReady, dataReady] using hnot
    simpa [State.dataReady, dataReady] using reading_of_decoderTick_done hstatus
  case keeps =>
    have hstatus : s.dec.status = .done := by simpa [State.dataReady, dataReady] using hready
    rw [decoderTick_of_done level hstatus]

/-- Settles O22. -/
theorem tickDroppedWhenDone : Obligations.TickDroppedWhenDone := by
  unfold Obligations.TickDroppedWhenDone
  intro level s hdone
  rw [exec_tick, decoderTick_of_done level hdone]

/-- Settles O23: the INIT tick's cleared state is the start values with IDLE and the level put in. -/
theorem initTickTakesBaseline : Obligations.InitTickTakesBaseline := by
  unfold Obligations.InitTickTakesBaseline
  intro level s hinit
  rw [exec_tick, decoderTick_of_init level hinit]
  rfl

/-- Settles O24. -/
theorem silentTickOnlyCounts : Obligations.SilentTickOnlyCounts := by
  unfold Obligations.SilentTickOnlyCounts
  intro s hdone hinit
  rw [exec_tick, decoderTick_silent ⟨hdone, hinit⟩]

/-- Settles O25: R90's window in the numbers of the thresholds. -/
theorem firstTransitionOutOfWindowDiscards : Obligations.FirstTransitionOutOfWindowDiscards := by
  unfold Obligations.FirstTransitionOutOfWindowDiscards
  intro level s t hdone hinit hl hn ht hout
  have h : TransitionAt s.dec level t := ⟨⟨hdone, hinit⟩, hl, ht⟩
  rw [exec_tick, h.first_outOfWindow hn (by omega)]
  rfl

/-- Settles O26: R91's window, and then the "0" symbol by status. -/
theorem longFirstTransitionIsZeroSymbol : Obligations.LongFirstTransitionIsZeroSymbol := by
  unfold Obligations.LongFirstTransitionIsZeroSymbol
  intro level s t hdone hinit hl hn ht hlow hhigh
  have h : TransitionAt s.dec level t := ⟨⟨hdone, hinit⟩, hl, ht⟩
  rw [exec_tick, h.first_long hn hlow hhigh, zeroSymbol_eq]
  rfl

/-- Settles O27: R92's window. -/
theorem shortFirstTransitionWaits : Obligations.ShortFirstTransitionWaits := by
  unfold Obligations.ShortFirstTransitionWaits
  intro level s t hdone hinit hl hn ht hlow hhigh
  have h : TransitionAt s.dec level t := ⟨⟨hdone, hinit⟩, hl, ht⟩
  rw [exec_tick, h.first_short hn hlow hhigh]
  rfl

/-- Settles O28: R93's window in the numbers of the thresholds. -/
theorem secondTransitionOutOfWindowDiscards : Obligations.SecondTransitionOutOfWindowDiscards := by
  unfold Obligations.SecondTransitionOutOfWindowDiscards
  intro level s t hdone hinit hl hn ht hout
  have h : TransitionAt s.dec level t := ⟨⟨hdone, hinit⟩, hl, ht⟩
  rw [exec_tick, h.second_outOfWindow hn (by omega)]
  rfl

/-- Settles O29: R94's window, and then the "1" symbol by status. -/
theorem secondTransitionIsOneSymbol : Obligations.SecondTransitionIsOneSymbol := by
  unfold Obligations.SecondTransitionIsOneSymbol
  intro level s t hdone hinit hl hn ht hlow hhigh
  have h : TransitionAt s.dec level t := ⟨⟨hdone, hinit⟩, hl, ht⟩
  rw [exec_tick, h.second_inWindow hn hlow hhigh, oneSymbol_eq]
  rfl

/-- Settles O30. -/
theorem thirdTransitionDiscards : Obligations.ThirdTransitionDiscards := by
  unfold Obligations.ThirdTransitionDiscards
  intro level s hdone hinit hl hn
  have h : TransitionAt s.dec level _ := ⟨⟨hdone, hinit⟩, hl, rfl⟩
  rw [exec_tick, h.third hn]
  rfl

end Sys2Proof.Machine
end

section
/-! PROOFS. The decoder over many ticks: parts of a line one after the other, the silent line, and the status during a
part (`43_decoder.md` R87 to R89 and R99). -/

namespace Sys2Proof.Machine

/-- The first tick and then the others. -/
theorem decoderFeed_cons (level : Level) (ls : List Level) (c : Decoder) :
    decoderFeed (level :: ls) c = decoderFeed ls (decoderTick level c) := rfl

/-- The parts of a line one after the other. -/
theorem decoderFeed_append (ls ms : List Level) (c : Decoder) :
    decoderFeed (ls ++ ms) c = decoderFeed ms (decoderFeed ls c) := List.foldl_append

/-- In DONE every tick is dropped (`43_decoder.md` R87). -/
theorem decoderFeed_of_done (ls : List Level) {c : Decoder} (h : c.status = .done) : decoderFeed ls c = c := by
  induction ls with
  | nil => rfl
  | cons level ls ih => rw [decoderFeed_cons, decoderTick_of_done level h, ih]

/-- A silent line counts ticks, up to 255 (`43_decoder.md` R99). -/
theorem decoderFeed_silent (n : Nat) {c : Decoder} (h : Sampling c) :
    decoderFeed (List.replicate n c.previousLevel) c =
      { c with ticksSinceTransition := BitVec.ofNat 8 (min (c.ticksSinceTransition.toNat + n) 255) } := by
  induction n generalizing c with
  | zero =>
    have hticks : min (c.ticksSinceTransition.toNat + 0) 255 = c.ticksSinceTransition.toNat := by omega
    rw [hticks, BitVec.ofNat_toNat, BitVec.setWidth_eq]
    rfl
  | succ n ih =>
    rw [List.replicate_succ, decoderFeed_cons, decoderTick_silent h]
    refine (ih (c := { c with
      ticksSinceTransition := BitVec.ofNat 8 (min (c.ticksSinceTransition.toNat + 1) 255) })
      ⟨h.notDone, h.notInit⟩).trans ?_
    have hticks : min ((BitVec.ofNat 8 (min (c.ticksSinceTransition.toNat + 1) 255)).toNat + n) 255 =
        min (c.ticksSinceTransition.toNat + (n + 1)) 255 := by
      rw [BitVec.toNat_ofNat]
      omega
    rw [hticks]

/-- Settles O31: the silent ticks, and then a transition later than `MAXL`. -/
theorem silentLineOnlyCounts : Obligations.SilentLineOnlyCounts := by
  unfold Obligations.SilentLineOnlyCounts
  intro n c hdone hinit
  have hsampling : Sampling c := ⟨hdone, hinit⟩
  refine ⟨decoderFeed_silent n hsampling, fun hn => ?_⟩
  rw [decoderFeed_append, decoderFeed_silent n hsampling]
  refine TransitionAt.status_of_late ⟨⟨hdone, hinit⟩, by simp, rfl⟩ ?_
  rw [BitVec.toNat_ofNat]
  omega

/-- Settles O32: the INIT tick's outcome is a function of its level. -/
theorem initTickForgetsHistory : Obligations.InitTickForgetsHistory := by
  unfold Obligations.InitTickForgetsHistory
  intro a b level ls ha hb
  rw [decoderFeed_cons, decoderFeed_cons, decoderTick_of_init level ha, decoderTick_of_init level hb]

/-- These ticks take the decoder from `c` to `c'`, and before each of them it is in the given status. -/
structure Through (st : Status) (ls : List Level) (c c' : Decoder) : Prop where
  ends : decoderFeed ls c = c'
  during : ∀ k < ls.length, (decoderFeed (ls.take k) c).status = st

namespace Through

variable {st : Status} {ls ms : List Level} {c c₁ c₂ : Decoder}

/-- No tick. -/
theorem nil (st : Status) (c : Decoder) : Through st [] c c := ⟨rfl, by simp⟩

/-- One tick. -/
theorem tick {level : Level} (hc : c.status = st) (h : decoderTick level c = c₁) : Through st [level] c c₁ := by
  refine ⟨h, fun k hk => ?_⟩
  obtain rfl : k = 0 := Nat.lt_one_iff.mp hk
  exact hc

/-- One part and then the next. -/
theorem trans (h : Through st ls c c₁) (h' : Through st ms c₁ c₂) : Through st (ls ++ ms) c c₂ := by
  refine ⟨by rw [decoderFeed_append, h.ends, h'.ends], fun k hk => ?_⟩
  rw [List.length_append] at hk
  by_cases hfirst : k < ls.length
  · rw [List.take_append_of_le_length hfirst.le]
    exact h.during k hfirst
  · rw [List.take_append, List.take_of_length_le (by omega), decoderFeed_append, h.ends]
    exact h'.during (k - ls.length) (by omega)

/-- Silent ticks in a sampling status (`43_decoder.md` R99). -/
theorem silent {level : Level} (n : Nat) (hs : Sampling c) (hc : c.status = st) (hl : c.previousLevel = level)
    (hn : c.ticksSinceTransition.toNat + n ≤ 255) : Through st (List.replicate n level) c
      { c with ticksSinceTransition := BitVec.ofNat 8 (c.ticksSinceTransition.toNat + n) } := by
  subst hl
  refine ⟨?_, fun k hk => ?_⟩
  · rw [decoderFeed_silent n hs, Nat.min_eq_left hn]
  · rw [List.take_replicate, decoderFeed_silent _ hs]
    exact hc

/-- The status at any point of a part of a longer line. -/
theorem status_at {before after : List Level} {k : Nat} (h : Through st ms c₁ c₂) (hc : decoderFeed before c = c₁)
    (hlow : before.length ≤ k) (hhigh : k < before.length + ms.length) :
    (decoderFeed ((before ++ ms ++ after).take k) c).status = st := by
  rw [List.append_assoc, List.take_append, List.take_of_length_le hlow, decoderFeed_append, hc,
    List.take_append_of_le_length (by omega)]
  exact h.during (k - before.length) (by omega)

/-- The same up to the part's end, where the part does not leave the status. -/
theorem status_at_le {before after : List Level} {k : Nat} (h : Through st ms c₁ c₂) (hend : c₂.status = st)
    (hc : decoderFeed before c = c₁) (hlow : before.length ≤ k) (hhigh : k ≤ before.length + ms.length) :
    (decoderFeed ((before ++ ms ++ after).take k) c).status = st := by
  by_cases hlast : k = before.length + ms.length
  · rw [List.take_left' (by rw [List.length_append, hlast]), decoderFeed_append, hc, h.ends]
    exact hend
  · exact h.status_at hc hlow (by omega)

end Through

end Sys2Proof.Machine
end

section
/-! PROOFS. Cells that the decoder resolves (`40_timing_constants.md` R56, `43_decoder.md` R91, R92 and R94): what one
cell of any length in its window does, and what a sequence of them does in IDLE, SYNC and READING. -/

namespace Sys2Proof.Machine

/-- The decoder right after the transition that ends a cell, which starts the next one. -/
def atCell (st : Status) (shift : BitVec 32) (bits : Nat) (level : Level) : Decoder :=
  ⟨st, shift, BitVec.ofNat 8 bits, 0#8, 0#2, level⟩

/-- The INIT tick starts a cell, with no bit received (`43_decoder.md` R88). -/
theorem initTick_eq_atCell (level : Level) : initTick level = atCell .idle 0#32 0 level := rfl

/-- The end of a symbol (`43_decoder.md` R91 and R94). -/
def endSymbol (b : Bool) (c : Decoder) : Decoder := if b then oneSymbol c else zeroSymbol c

/-- A symbol's end reads no counter of the cell. -/
theorem endSymbol_sampled (b : Bool) (c : Decoder) (level : Level) (t : Nat) (n : BitVec 2) :
    endSymbol b (c.sampled level t n) = endSymbol b { c with previousLevel := level } := by
  cases b
  · simp [endSymbol, zeroSymbol_eq, Decoder.sampled]
  · simp [endSymbol, oneSymbol_eq, Decoder.sampled]

section Cell

variable {st : Status} {shift : BitVec 32} {n : Nat} {x : Level} {k : Cell}

/-- Silent ticks inside a cell. -/
theorem through_silent_sampled (hdone : st ≠ .done) (hinit : st ≠ .init) {t m : Nat} (ht : t + m ≤ 255) (z : Level)
    (count : BitVec 2) : Through st (List.replicate m x) ((atCell st shift n z).sampled x t count)
      ((atCell st shift n z).sampled x (t + m) count) := by
  have hticks : ((atCell st shift n z).sampled x t count).ticksSinceTransition.toNat = t :=
    Nat.mod_eq_of_lt (by omega)
  have h := Through.silent (c := (atCell st shift n z).sampled x t count) m ⟨hdone, hinit⟩ rfl rfl (by omega)
  rw [hticks] at h
  exact h

/-- A transition inside a cell. -/
theorem transitionAt_sampled (hdone : st ≠ .done) (hinit : st ≠ .init) {t : Nat} (ht : t < 255) {y : Level}
    (hy : y ≠ x) (z : Level) (count : BitVec 2) :
    TransitionAt ((atCell st shift n z).sampled x t count) y (t + 1) := by
  have hticks : ((atCell st shift n z).sampled x t count).ticksSinceTransition.toNat = t :=
    Nat.mod_eq_of_lt (by omega)
  exact ⟨⟨hdone, hinit⟩, hy, by omega⟩

/-- A "0" cell: one transition, at its end (`43_decoder.md` R91). -/
theorem through_zeroCell (hdone : st ≠ .done) (hinit : st ≠ .init) {len : Nat} (hlow : 7 ≤ len) (hhigh : len ≤ 14) :
    Through st (List.replicate (len - 1) x ++ [!x]) (atCell st shift n x)
      (endSymbol false (atCell st shift n (!x))) := by
  obtain ⟨m, rfl⟩ : ∃ m, len = m + 1 := ⟨len - 1, by omega⟩
  rw [Nat.add_sub_cancel]
  have hsilent : Through st (List.replicate m x) (atCell st shift n x) ((atCell st shift n x).sampled x (0 + m) 0#2) :=
    through_silent_sampled hdone hinit (t := 0) (by omega) x 0#2
  rw [Nat.zero_add] at hsilent
  have hend := transitionAt_sampled (shift := shift) (n := n) hdone hinit (show m < 255 by omega)
    (Bool.not_ne_self x) x 0#2
  refine hsilent.trans (.tick rfl ?_)
  rw [hend.first_long rfl hlow hhigh]
  exact endSymbol_sampled false (atCell st shift n x) (!x) (m + 1) 1#2

/-- A "1" cell: a short first transition and a second one at its end (`43_decoder.md` R92 and R94). -/
theorem through_oneCell (hdone : st ≠ .done) (hinit : st ≠ .init) {mid len : Nat} (hmid : 2 ≤ mid) (hshort : mid ≤ 6)
    (hlt : mid < len) (hlow : 4 ≤ len) (hhigh : len ≤ 14) :
    Through st (List.replicate (mid - 1) x ++ List.replicate (len - mid) (!x) ++ [x]) (atCell st shift n x)
      (endSymbol true (atCell st shift n x)) := by
  obtain ⟨m, rfl⟩ : ∃ m, mid = m + 1 := ⟨mid - 1, by omega⟩
  obtain ⟨r, rfl⟩ : ∃ r, len = m + 1 + r + 1 := ⟨len - m - 2, by omega⟩
  have hsplit : List.replicate (m + 1 + r + 1 - (m + 1)) (!x) = [!x] ++ List.replicate r (!x) := by
    rw [Nat.add_assoc, Nat.add_sub_cancel_left, List.replicate_succ, List.singleton_append]
  rw [Nat.add_sub_cancel, hsplit]
  have hsilent : Through st (List.replicate m x) (atCell st shift n x) ((atCell st shift n x).sampled x (0 + m) 0#2) :=
    through_silent_sampled hdone hinit (t := 0) (by omega) x 0#2
  rw [Nat.zero_add] at hsilent
  have hfirst := transitionAt_sampled (shift := shift) (n := n) hdone hinit (show m < 255 by omega)
    (Bool.not_ne_self x) x 0#2
  have hwait : Through st [!x] ((atCell st shift n x).sampled x m 0#2) ((atCell st shift n x).sampled (!x) (m + 1) 1#2) :=
    .tick rfl (hfirst.first_short rfl hmid hshort)
  have hrest : Through st (List.replicate r (!x)) ((atCell st shift n x).sampled (!x) (m + 1) 1#2)
      ((atCell st shift n x).sampled (!x) (m + 1 + r) 1#2) :=
    through_silent_sampled hdone hinit (by omega) x 1#2
  have hend := transitionAt_sampled (shift := shift) (n := n) hdone hinit (show m + 1 + r < 255 by omega)
    (Bool.not_ne_self x).symm x 1#2
  refine (hsilent.trans (hwait.trans hrest)).trans (.tick rfl ?_)
  rw [hend.second_inWindow rfl hlow hhigh]
  exact endSymbol_sampled true (atCell st shift n x) x _ 2#2

/-- Any cell in its window ends its symbol, and no status changes before its end. -/
theorem through_cell (hdone : st ≠ .done) (hinit : st ≠ .init) (hk : k.inWindow) :
    Through st (k.samples x) (atCell st shift n x) (endSymbol k.bit (atCell st shift n (levelAfter k.bit x))) := by
  obtain ⟨b, mid, len⟩ := k
  cases b with
  | false =>
    obtain ⟨hlow, hhigh⟩ : 7 ≤ len ∧ len ≤ 14 := hk
    exact through_zeroCell hdone hinit hlow hhigh
  | true =>
    obtain ⟨hmid, hshort, hlt, hlow, hhigh⟩ : 2 ≤ mid ∧ mid ≤ 6 ∧ mid < len ∧ 4 ≤ len ∧ len ≤ 14 := hk
    exact through_oneCell hdone hinit hmid hshort hlt hlow hhigh

end Cell

/-! The end of a symbol in each status. -/

/-- One more bit is counted. -/
theorem ofNat_bits_succ (n : Nat) : BitVec.ofNat 8 n + 1#8 = BitVec.ofNat 8 (n + 1) := by
  rw [BitVec.ofNat_add]

/-- A "1" in IDLE is a preamble bit, and the eighth locks (`43_decoder.md` R94). -/
theorem endSymbol_true_idle (shift : BitVec 32) {n : Nat} (hn : n < 255) (x : Level) :
    endSymbol true (atCell .idle shift n x) = atCell (if 8 ≤ n + 1 then .sync else .idle) shift (n + 1) x := by
  have hbits : (n % 256 + 1) % 256 = n + 1 := by omega
  simp [endSymbol, oneSymbol_eq, atCell, hbits, ofNat_bits_succ]

/-- A "0" in IDLE discards the frame (`43_decoder.md` R91). -/
theorem endSymbol_false_idle (shift : BitVec 32) (n : Nat) (x : Level) :
    (endSymbol false (atCell .idle shift n x)).status = .init := by
  simp [endSymbol, zeroSymbol_eq, atCell]

/-- A "1" in SYNC is counted only (`43_decoder.md` R94). -/
theorem endSymbol_true_sync (shift : BitVec 32) (n : Nat) (x : Level) :
    endSymbol true (atCell .sync shift n x) = atCell .sync shift (n + 1) x := by
  simp [endSymbol, oneSymbol_eq, atCell, ofNat_bits_succ]

/-- A "0" in SYNC is the start marker (`43_decoder.md` R91). -/
theorem endSymbol_false_sync (shift : BitVec 32) (n : Nat) (x : Level) :
    endSymbol false (atCell .sync shift n x) = atCell .reading shift 0 x := by
  simp [endSymbol, zeroSymbol_eq, atCell]

/-- A symbol in READING is a payload bit, and the 32nd ends the frame (`43_decoder.md` R91 and R94). -/
theorem endSymbol_reading (b : Bool) (shift : BitVec 32) {n : Nat} (hn : n < 255) (x : Level) :
    endSymbol b (atCell .reading shift n x) =
      atCell (if 32 ≤ n + 1 then .done else .reading) (shiftIn shift b) (n + 1) x := by
  have hbits : (n % 256 + 1) % 256 = n + 1 := by omega
  cases b
  · simp [endSymbol, zeroSymbol_eq, atCell, hbits, ofNat_bits_succ, shiftIn_eq_ofNat]
  · simp [endSymbol, oneSymbol_eq, atCell, hbits, ofNat_bits_succ, shiftIn_eq_ofNat]

/-! Sequences of cells. -/

/-- Cells that carry these bits, each in its window. -/
structure Carries (bs : List Bool) (ks : List Cell) : Prop where
  bits : ks.map Cell.bit = bs
  windows : ∀ k ∈ ks, k.inWindow

/-- The first cell carries the first bit. -/
theorem carries_cons_iff {b : Bool} {bs : List Bool} {ks : List Cell} :
    Carries (b :: bs) ks ↔ ∃ k ks', ks = k :: ks' ∧ k.bit = b ∧ k.inWindow ∧ Carries bs ks' := by
  constructor
  · rintro ⟨hbits, hwindows⟩
    obtain ⟨k, ks', rfl, hk, hks'⟩ := List.map_eq_cons_iff.mp hbits
    exact ⟨k, ks', rfl, hk, hwindows k (by simp), ⟨hks', fun j hj => hwindows j (by simp [hj])⟩⟩
  · rintro ⟨k, ks', rfl, rfl, hk, hks'⟩
    exact ⟨by simp [hks'.bits], by simpa using ⟨hk, hks'.windows⟩⟩

/-- No bit, no cell. -/
theorem carries_nil_iff {ks : List Cell} : Carries [] ks ↔ ks = [] := by
  constructor
  · rintro ⟨hbits, -⟩
    exact List.map_eq_nil_iff.mp hbits
  · rintro rfl
    exact ⟨rfl, by simp⟩

/-- The cells of two sequences of bits one after the other. -/
theorem carries_append_iff {as bs : List Bool} {ks : List Cell} :
    Carries (as ++ bs) ks ↔ ∃ ks' js, ks = ks' ++ js ∧ Carries as ks' ∧ Carries bs js := by
  constructor
  · rintro ⟨hbits, hwindows⟩
    obtain ⟨ks', js, rfl, has, hbs⟩ := List.map_eq_append_iff.mp hbits
    obtain ⟨hks', hjs⟩ := List.forall_mem_append.mp hwindows
    exact ⟨ks', js, rfl, ⟨has, hks'⟩, ⟨hbs, hjs⟩⟩
  · rintro ⟨ks', js, rfl, has, hbs⟩
    exact ⟨by rw [List.map_append, has.bits, hbs.bits], List.forall_mem_append.mpr ⟨has.windows, hbs.windows⟩⟩

/-- One bit, one cell. -/
theorem carries_singleton_iff {b : Bool} {ks : List Cell} :
    Carries [b] ks ↔ ∃ k, ks = [k] ∧ k.bit = b ∧ k.inWindow := by
  simp [carries_cons_iff, carries_nil_iff]

/-- A cell in its window takes its length in ticks. -/
theorem Cell.length_samples {k : Cell} (hk : k.inWindow) (x : Level) : (k.samples x).length = k.len := by
  obtain ⟨b, mid, len⟩ := k
  cases b with
  | false =>
    obtain ⟨hlow, -⟩ : 7 ≤ len ∧ len ≤ 14 := hk
    simp [Cell.samples]
    omega
  | true =>
    obtain ⟨hmid, -, hlt, -, -⟩ : 2 ≤ mid ∧ mid ≤ 6 ∧ mid < len ∧ 4 ≤ len ∧ len ≤ 14 := hk
    simp [Cell.samples]
    omega

/-- A cell in its window has a length. -/
theorem Cell.len_pos {k : Cell} (hk : k.inWindow) : 0 < k.len := by
  unfold Cell.inWindow at hk
  split at hk <;> omega

/-- Cells that carry a bit take time. -/
theorem Carries.length_samples_pos {bs : List Bool} {ks : List Cell} (h : Carries bs ks) (hbs : bs ≠ []) (x : Level) :
    0 < (cellsSamples ks x).length := by
  obtain ⟨b, bs, rfl⟩ := List.exists_cons_of_ne_nil hbs
  obtain ⟨k, ks, rfl, -, hwindow, -⟩ := carries_cons_iff.mp h
  rw [cellsSamples, List.length_append, Cell.length_samples hwindow]
  exact Nat.add_pos_left (Cell.len_pos hwindow) _

/-- The samples of two sequences of cells one after the other. -/
theorem cellsSamples_append (ks js : List Cell) (x : Level) :
    cellsSamples (ks ++ js) x = cellsSamples ks x ++ cellsSamples js (levelAtEnd (ks.map Cell.bit) x) := by
  induction ks generalizing x with
  | nil => rfl
  | cons k ks ih => simp [cellsSamples, ih, levelAtEnd]

/-- The level after the first symbol and then the others. -/
theorem levelAtEnd_cons (b : Bool) (bs : List Bool) (x : Level) :
    levelAtEnd (b :: bs) x = levelAtEnd bs (levelAfter b x) := rfl

/-- "1" symbols leave the level. -/
@[simp] theorem levelAtEnd_replicate_true (n : Nat) (x : Level) : levelAtEnd (List.replicate n true) x = x := by
  simp [levelAtEnd_eq_xor, List.count_replicate]

/-- Preamble bits in IDLE, up to the one that locks (`43_decoder.md` R94). -/
theorem through_idle {n m : Nat} {ks : List Cell} (hks : Carries (List.replicate n true) ks) (hm : m < 8)
    (hn : m + n ≤ 8) (shift : BitVec 32) (x : Level) :
    Through .idle (cellsSamples ks x) (atCell .idle shift m x)
      (atCell (if 8 ≤ m + n then .sync else .idle) shift (m + n) x) := by
  induction n generalizing m ks with
  | zero =>
    obtain rfl := carries_nil_iff.mp hks
    rw [Nat.add_zero, if_neg (by omega)]
    exact .nil _ _
  | succ n ih =>
    obtain ⟨k, ks, rfl, hone, hwindow, hks⟩ := carries_cons_iff.mp hks
    have hcell := through_cell (shift := shift) (n := m) (x := x) (st := .idle) nofun nofun hwindow
    rw [hone, endSymbol_true_idle _ (by omega)] at hcell
    rw [cellsSamples, hone]
    by_cases hlocks : 8 ≤ m + 1
    · obtain rfl : n = 0 := by omega
      obtain rfl := carries_nil_iff.mp hks
      exact hcell.trans (.nil _ _)
    · rw [if_neg hlocks] at hcell
      rw [show m + (n + 1) = m + 1 + n by omega]
      exact hcell.trans (ih hks (by omega) (by omega))

/-- Preamble bits in SYNC (`43_decoder.md` R94). -/
theorem through_sync {n : Nat} {ks : List Cell} (hks : Carries (List.replicate n true) ks) (m : Nat)
    (shift : BitVec 32) (x : Level) :
    Through .sync (cellsSamples ks x) (atCell .sync shift m x) (atCell .sync shift (m + n) x) := by
  induction n generalizing m ks with
  | zero =>
    obtain rfl := carries_nil_iff.mp hks
    exact .nil _ _
  | succ n ih =>
    obtain ⟨k, ks, rfl, hone, hwindow, hks⟩ := carries_cons_iff.mp hks
    have hcell := through_cell (shift := shift) (n := m) (x := x) (st := .sync) nofun nofun hwindow
    rw [hone, endSymbol_true_sync] at hcell
    rw [cellsSamples, hone, show m + (n + 1) = m + 1 + n by omega]
    exact hcell.trans (ih hks (m + 1))

/-- The rest of the preamble and the start marker (`43_decoder.md` R94 and R91). -/
theorem through_startMarker {n : Nat} {ks : List Cell} (hks : Carries (List.replicate n true ++ [false]) ks) (m : Nat)
    (shift : BitVec 32) (x : Level) :
    Through .sync (cellsSamples ks x) (atCell .sync shift m x) (atCell .reading shift 0 (!x)) := by
  obtain ⟨ks, ms, rfl, hones, hmarker⟩ := carries_append_iff.mp hks
  obtain ⟨k, rfl, hzero, hwindow⟩ := carries_singleton_iff.mp hmarker
  have hcell := through_cell (shift := shift) (n := m + n) (x := x) (st := .sync) nofun nofun hwindow
  rw [hzero, endSymbol_false_sync] at hcell
  rw [cellsSamples_append, hones.bits, levelAtEnd_replicate_true]
  exact (through_sync hones m shift x).trans (hcell.trans (.nil _ _))

/-- A "0" after fewer than 8 preamble bits (`43_decoder.md` R91 and R103). -/
theorem through_shortPreamble {n : Nat} {ks : List Cell} (hks : Carries (List.replicate n true ++ [false]) ks)
    (hn : n < 8) (shift : BitVec 32) (x : Level) :
    ∃ c, Through .idle (cellsSamples ks x) (atCell .idle shift 0 x) c ∧ c.status = .init := by
  obtain ⟨ks, ms, rfl, hones, hmarker⟩ := carries_append_iff.mp hks
  obtain ⟨k, rfl, hzero, hwindow⟩ := carries_singleton_iff.mp hmarker
  have hpreamble := through_idle hones (m := 0) (by omega) (by omega) shift x
  rw [Nat.zero_add, if_neg (by omega)] at hpreamble
  have hcell := through_cell (shift := shift) (n := n) (x := x) (st := .idle) nofun nofun hwindow
  rw [hzero] at hcell
  rw [cellsSamples_append, hones.bits, levelAtEnd_replicate_true]
  exact ⟨_, hpreamble.trans (hcell.trans (.nil _ _)), endSymbol_false_idle shift n _⟩

/-- Payload bits in READING, up to the 32nd (`43_decoder.md` R91 and R94). -/
theorem through_reading {bs : List Bool} {m : Nat} {ks : List Cell} (hks : Carries bs ks) (hm : m < 32)
    (hn : m + bs.length ≤ 32) (shift : BitVec 32) (x : Level) :
    Through .reading (cellsSamples ks x) (atCell .reading shift m x)
      (atCell (if 32 ≤ m + bs.length then .done else .reading) (bs.foldl shiftIn shift) (m + bs.length)
        (levelAtEnd bs x)) := by
  induction bs generalizing m ks shift x with
  | nil =>
    obtain rfl := carries_nil_iff.mp hks
    rw [List.length_nil, Nat.add_zero, if_neg (by omega)]
    exact .nil _ _
  | cons b bs ih =>
    obtain ⟨k, ks, rfl, rfl, hwindow, hks⟩ := carries_cons_iff.mp hks
    rw [List.length_cons] at hn
    have hcell := through_cell (shift := shift) (n := m) (x := x) (st := .reading) nofun nofun hwindow
    rw [endSymbol_reading _ _ (by omega)] at hcell
    rw [cellsSamples, List.length_cons, List.foldl_cons, levelAtEnd_cons]
    by_cases hlast : 32 ≤ m + 1
    · obtain rfl : bs = [] := List.length_eq_zero_iff.mp (by omega)
      obtain rfl := carries_nil_iff.mp hks
      exact hcell.trans (.nil _ _)
    · rw [if_neg hlast] at hcell
      rw [show m + (bs.length + 1) = m + 1 + bs.length by omega]
      exact hcell.trans (ih hks (by omega) (by omega) _ _)

/-! The payload in the shift register. -/

/-- The bits of a shift: the new one at the bottom, the others one up (`00_scope.md` R9). -/
theorem getLsbD_shiftIn (v : BitVec 32) (b : Bool) {i : Nat} (hi : i < 32) :
    (shiftIn v b).getLsbD i = if i = 0 then b else v.getLsbD (i - 1) := by
  cases i with
  | zero => cases b <;> simp [shiftIn]
  | succ i =>
    have hlow : i < 32 := by omega
    cases b <;> simp [shiftIn, hi, BitVec.getLsbD_eq_getElem hlow]

/-- Shifting bits in puts the last one at the bottom, and what was there before above them. -/
theorem getLsbD_foldl_shiftIn (bs : List Bool) (v : BitVec 32) {i : Nat} (hi : i < 32) :
    (bs.foldl shiftIn v).getLsbD i = (bs.reverse[i]?).getD (v.getLsbD (i - bs.length)) := by
  induction bs using List.reverseRecOn generalizing i with
  | nil => simp
  | append_singleton bs b ih =>
    rw [List.foldl_append, List.foldl_cons, List.foldl_nil, getLsbD_shiftIn _ _ hi]
    cases i with
    | zero => simp
    | succ i =>
      simp [ih (i := i) (by omega)]

/-- The payload's 32 bits, `d[31]` first, make the payload (`43_decoder.md` R97). -/
theorem foldl_shiftIn_payloadBits (d : Payload) (v : BitVec 32) : (payloadBits d).foldl shiftIn v = d := by
  apply BitVec.eq_of_getLsbD_eq
  intro i hi
  rw [getLsbD_foldl_shiftIn _ _ hi, payloadBits_eq_reverse, List.reverse_reverse]
  simp [dataW, hi]

/-- The payload's cells take READING to DONE with the payload (`43_decoder.md` R97). -/
theorem through_payload {d : Payload} {ks : List Cell} (hks : Carries (payloadBits d) ks) (shift : BitVec 32)
    (x : Level) : Through .reading (cellsSamples ks x) (atCell .reading shift 0 x)
      (atCell .done d 32 (levelAtEnd (payloadBits d) x)) := by
  have h := through_reading (m := 0) hks (by omega) (by simp) shift x
  simpa [foldl_shiftIn_payloadBits] using h

end Sys2Proof.Machine
end

section
/-! PROOFS. The ideal channel as cells, and the acquisition of a frame (`43_decoder.md` R100 to R103). -/

namespace Sys2Proof.Machine

/-- The cell of a symbol at 8 ticks a bit (`43_decoder.md` R100). -/
def idealCell (b : Bool) : Cell := ⟨b, 4, 8⟩

/-- An ideal cell carries its bit. -/
@[simp] theorem idealCell_bit (b : Bool) : (idealCell b).bit = b := rfl

/-- Every ideal cell is in its window. -/
theorem idealCell_inWindow (b : Bool) : (idealCell b).inWindow := by cases b <;> decide

/-- Ideal cells carry their bits. -/
theorem carries_idealCells (bs : List Bool) : Carries bs (bs.map idealCell) :=
  ⟨by simp [Function.comp_def], List.forall_mem_map.mpr fun b _ => idealCell_inWindow b⟩

/-- An ideal cell takes 8 ticks. -/
theorem length_idealCell_samples (b : Bool) (x : Level) : ((idealCell b).samples x).length = 8 := by
  cases b <;> rfl

/-- Ideal cells take 8 ticks each. -/
theorem length_cellsSamples_ideal (bs : List Bool) (x : Level) :
    (cellsSamples (bs.map idealCell) x).length = 8 * bs.length := by
  induction bs generalizing x with
  | nil => rfl
  | cons b bs ih =>
    rw [List.map_cons, cellsSamples, List.length_append, ih, length_idealCell_samples, List.length_cons]
    omega

/-- The ideal cells of two sequences of bits one after the other. -/
theorem cellsSamples_ideal_append (as bs : List Bool) (x : Level) :
    cellsSamples ((as ++ bs).map idealCell) x =
      cellsSamples (as.map idealCell) x ++ cellsSamples (bs.map idealCell) (levelAtEnd as x) := by
  rw [List.map_append, cellsSamples_append, (carries_idealCells as).bits]

/-- A symbol's samples are its boundary toggle's tick and those of its cell before the next boundary. -/
theorem symbolSamples_append_toggle (b : Bool) (x : Level) :
    symbolSamples b x ++ [!(levelAfter b x)] = (!x) :: (idealCell b).samples (!x) := by
  cases b <;> cases x <;> rfl

/-- The channel's symbols from their first toggle to the next symbol's are ideal cells (`43_decoder.md` R98). -/
theorem lineSamples_append_toggle (bs : List Bool) (x : Level) :
    lineSamples bs x ++ [!(levelAtEnd bs x)] = (!x) :: cellsSamples (bs.map idealCell) (!x) := by
  induction bs generalizing x with
  | nil => rfl
  | cons b bs ih =>
    have hlevel : levelAfter b (!x) = !(levelAfter b x) := by cases b <;> rfl
    calc lineSamples (b :: bs) x ++ [!(levelAtEnd (b :: bs) x)]
        = symbolSamples b x ++ (lineSamples bs (levelAfter b x) ++ [!(levelAtEnd bs (levelAfter b x))]) :=
          List.append_assoc _ _ _
      _ = (symbolSamples b x ++ [!(levelAfter b x)]) ++ cellsSamples (bs.map idealCell) (levelAfter b (!x)) := by
          rw [ih, hlevel, List.append_assoc]; rfl
      _ = (!x) :: cellsSamples ((b :: bs).map idealCell) (!x) := by rw [symbolSamples_append_toggle]; rfl

/-- The samples of two sequences of symbols one after the other. -/
theorem lineSamples_append (as bs : List Bool) (x : Level) :
    lineSamples (as ++ bs) x = lineSamples as x ++ lineSamples bs (levelAtEnd as x) := by
  induction as generalizing x with
  | nil => rfl
  | cons a as ih => rw [List.cons_append, lineSamples, ih, lineSamples, List.append_assoc, levelAtEnd_cons]

/-- The first samples of a symbol are its toggle's. -/
theorem lineSamples_cons_eq (b : Bool) (bs : List Bool) (x : Level) :
    ∃ after, lineSamples (b :: bs) x = (!x) :: after := ⟨_, rfl⟩

/-- The symbols before the end marker: those that a decoder resolves (`43_decoder.md` R98). -/
def resolvedSymbols (d : Payload) : List Bool :=
  List.replicate 8 true ++ (List.replicate 23 true ++ [false]) ++ payloadBits d

/-- A frame's symbols are those resolved and the end marker. -/
theorem frameSymbols_eq (d : Payload) : frameSymbols d = resolvedSymbols d ++ [false] := rfl

/-- The ideal frame up to tick 513 is ideal cells after the first toggle. -/
theorem idealSamples_eq (d : Payload) (l0 : Level) : ∃ after, idealSamples d l0 =
    (!l0) :: cellsSamples ((resolvedSymbols d).map idealCell) (!l0) ++ after := by
  obtain ⟨after, hmarker⟩ := lineSamples_cons_eq false [] (levelAtEnd (resolvedSymbols d) l0)
  refine ⟨after ++ List.replicate (guardBits * oversampling) false, ?_⟩
  rw [idealSamples, frameSymbols_eq, lineSamples_append, hmarker, ← List.singleton_append, ← List.append_assoc,
    lineSamples_append_toggle, List.append_assoc]

/-! Acquisition. -/

section Acquisition

variable {c : Decoder} {l0 : Level}

/-- The first toggle that a decoder which is not in INIT sees sets INIT (`43_decoder.md` R101, cases (b) and (c)). -/
theorem Acquirable.firstToggle (h : Acquirable c l0) (hinit : c.status ≠ .init) :
    (decoderTick (!l0) c).status = .init := by
  rcases h with hi | ⟨hstatus, rfl, hticks⟩ | ⟨hidle, rfl, hn, hticks⟩
  · exact absurd hi hinit
  · have hdone : c.status ≠ .done := by rintro hd; simp [hd] at hstatus
    exact TransitionAt.status_of_late ⟨⟨hdone, hinit⟩, by simp, rfl⟩ (by omega)
  · have htoggle : TransitionAt c (!c.previousLevel) _ := ⟨⟨by simp [hidle], hinit⟩, by simp, rfl⟩
    by_cases hlong : 7 ≤ min (c.ticksSinceTransition.toNat + 1) 255 ∧
        min (c.ticksSinceTransition.toNat + 1) 255 ≤ 14
    · rw [htoggle.first_long hn hlong.1 hlong.2, zeroSymbol_eq]
      simp [Decoder.sampled, hidle]
    · rw [htoggle.first_outOfWindow hn (by omega), discardFrame_status]

/-- How a frame's first ticks are taken: `lead` are those up to the INIT tick, and `ks` are the cells from there on. -/
structure Acquires (c : Decoder) (x : Level) (bs : List Bool) (lead : List Level) (ks : List Cell) : Prop where
  samples : x :: cellsSamples (bs.map idealCell) x = lead ++ cellsSamples ks x
  carries : Carries bs ks
  ends : decoderFeed lead c = initTick x
  short : lead.length ≤ 2
  noSync : ∀ k, 1 ≤ k → k ≤ lead.length → (decoderFeed (lead.take k) c).status ≠ .sync

/-- From a state A the INIT tick is frame tick 1 or 2, and the first cell has 8 or 7 ticks after it
(`43_decoder.md` R101). -/
theorem Acquirable.acquires (h : Acquirable c l0) {bs : List Bool} (hbs : bs ≠ []) :
    ∃ lead ks, Acquires c (!l0) bs lead ks := by
  by_cases hinit : c.status = .init
  · have hends : decoderFeed [!l0] c = initTick (!l0) := decoderTick_of_init _ hinit
    refine ⟨[!l0], bs.map idealCell, rfl, carries_idealCells bs, hends, by simp, fun k hlow hhigh => ?_⟩
    rw [List.take_of_length_le hlow, hends]
    exact nofun
  · obtain ⟨b, bs, rfl⟩ := List.exists_cons_of_ne_nil hbs
    have htoggle := Acquirable.firstToggle h hinit
    have hends : decoderFeed [!l0, !l0] c = initTick (!l0) := decoderTick_of_init _ htoggle
    have hcell : (idealCell b).samples (!l0) = (!l0) :: (Cell.mk b 3 7).samples (!l0) := by
      cases b <;> cases l0 <;> rfl
    have hcarries : Carries (b :: bs) (⟨b, 3, 7⟩ :: bs.map idealCell) :=
      carries_cons_iff.mpr ⟨_, _, rfl, rfl, by cases b <;> decide, carries_idealCells bs⟩
    refine ⟨[!l0, !l0], ⟨b, 3, 7⟩ :: bs.map idealCell, ?_, hcarries, hends, le_rfl, fun k hlow hhigh => ?_⟩
    · simp [cellsSamples, hcell]
    · by_cases hk : k = 1
      · rw [hk]
        change (decoderTick (!l0) c).status ≠ .sync
        rw [htoggle]
        exact nofun
      · rw [List.take_of_length_le (by simp; omega), hends]
        exact nofun

end Acquisition

/-! A frame as three parts, one for each status that the decoder goes through. -/

/-- The ideal frame from a state A: `lead` up to the INIT tick, the parts in IDLE, SYNC and READING, and what comes after
DONE (`43_decoder.md` R101). -/
structure Reception (d : Payload) (l0 : Level) (c : Decoder) where
  lead : List Level
  inIdle : List Level
  inSync : List Level
  inReading : List Level
  after : List Level
  samples : idealSamples d l0 = lead ++ inIdle ++ inSync ++ inReading ++ after
  feed_lead : decoderFeed lead c = atCell .idle 0#32 0 (!l0)
  idle : Through .idle inIdle (atCell .idle 0#32 0 (!l0)) (atCell .sync 0#32 8 (!l0))
  sync : Through .sync inSync (atCell .sync 0#32 8 (!l0)) (atCell .reading 0#32 0 l0)
  reading : Through .reading inReading (atCell .reading 0#32 0 l0)
    (atCell .done d 32 (levelAtEnd (payloadBits d) l0))
  lead_le : lead.length ≤ 2
  sync_start : (lead ++ inIdle).length = 65
  reading_start : (lead ++ inIdle ++ inSync).length = 257
  done_start : (lead ++ inIdle ++ inSync ++ inReading).length = 513

/-- From every state A the frame is received (`43_decoder.md` R101). -/
theorem Acquirable.reception {c : Decoder} {l0 : Level} (h : Acquirable c l0) (d : Payload) :
    Nonempty (Reception d l0 c) := by
  obtain ⟨lead, ks, hacq⟩ := Acquirable.acquires h (bs := List.replicate 8 true) (by simp)
  obtain ⟨after, hsamples⟩ := idealSamples_eq d l0
  have hmarker : levelAtEnd (List.replicate 23 true ++ [false]) (!l0) = l0 := by simp [levelAtEnd_eq_xor]
  have hsync := through_startMarker (carries_idealCells (List.replicate 23 true ++ [false])) 8 0#32 (!l0)
  rw [Bool.not_not] at hsync
  have hstart : (lead ++ cellsSamples ks (!l0)).length = 65 := by
    rw [← hacq.samples, List.length_cons, length_cellsSamples_ideal, List.length_replicate]
  refine ⟨⟨lead, cellsSamples ks (!l0), cellsSamples ((List.replicate 23 true ++ [false]).map idealCell) (!l0),
    cellsSamples ((payloadBits d).map idealCell) l0, after, ?samples, hacq.ends.trans (initTick_eq_atCell _), ?idle,
    hsync, ?reading, hacq.short, hstart, ?readingStart, ?doneStart⟩⟩
  case samples =>
    rw [hsamples, ← hacq.samples, resolvedSymbols, List.append_assoc (List.replicate 8 true), cellsSamples_ideal_append,
      cellsSamples_ideal_append, levelAtEnd_replicate_true, hmarker]
    simp only [List.cons_append, List.append_assoc]
  case idle => exact through_idle hacq.carries (by omega) (by omega) 0#32 (!l0)
  case reading => exact through_payload (carries_idealCells _) 0#32 l0
  case readingStart => rw [List.length_append, hstart, length_cellsSamples_ideal]; rfl
  case doneStart =>
    rw [List.length_append, List.length_append, hstart, length_cellsSamples_ideal, length_cellsSamples_ideal,
      length_payloadBits]
    rfl

namespace Reception

variable {d : Payload} {l0 : Level} {c : Decoder}

/-- The decoder after the part in IDLE. -/
theorem feed_idle (r : Reception d l0 c) : decoderFeed (r.lead ++ r.inIdle) c = atCell .sync 0#32 8 (!l0) := by
  rw [decoderFeed_append, r.feed_lead, r.idle.ends]

/-- The decoder after the part in SYNC. -/
theorem feed_sync (r : Reception d l0 c) :
    decoderFeed (r.lead ++ r.inIdle ++ r.inSync) c = atCell .reading 0#32 0 l0 := by
  rw [decoderFeed_append, r.feed_idle, r.sync.ends]

/-- The decoder after the part in READING. -/
theorem feed_reading (r : Reception d l0 c) : decoderFeed (r.lead ++ r.inIdle ++ r.inSync ++ r.inReading) c =
    atCell .done d 32 (levelAtEnd (payloadBits d) l0) := by
  rw [decoderFeed_append, r.feed_sync, r.reading.ends]

/-- The decoder at frame tick 513. -/
theorem feed_take (r : Reception d l0 c) :
    decoderFeed ((idealSamples d l0).take 513) c = atCell .done d 32 (levelAtEnd (payloadBits d) l0) := by
  rw [r.samples, List.take_left' r.done_start, r.feed_reading]

/-- The decoder after the whole frame. -/
theorem feed_frame (r : Reception d l0 c) :
    decoderFeed (idealSamples d l0) c = atCell .done d 32 (levelAtEnd (payloadBits d) l0) := by
  rw [r.samples, decoderFeed_append, r.feed_reading]
  exact decoderFeed_of_done r.after rfl

/-- IDLE up to frame tick 64. -/
theorem status_idle (r : Reception d l0 c) {k : Nat} (hlow : 2 ≤ k) (hhigh : k ≤ 64) :
    (decoderFeed ((idealSamples d l0).take k) c).status = .idle := by
  have hlead := r.lead_le
  have hstart := r.sync_start
  rw [List.length_append] at hstart
  have hframe : idealSamples d l0 = r.lead ++ r.inIdle ++ (r.inSync ++ r.inReading ++ r.after) := by simp [r.samples]
  rw [hframe]
  exact r.idle.status_at r.feed_lead (by omega) (by omega)

/-- SYNC from frame tick 65. -/
theorem status_sync (r : Reception d l0 c) {k : Nat} (hlow : 65 ≤ k) (hhigh : k ≤ 256) :
    (decoderFeed ((idealSamples d l0).take k) c).status = .sync := by
  have hstart := r.sync_start
  have hend := r.reading_start
  rw [List.length_append] at hend
  have hframe : idealSamples d l0 = r.lead ++ r.inIdle ++ r.inSync ++ (r.inReading ++ r.after) := by simp [r.samples]
  rw [hframe]
  exact r.sync.status_at r.feed_idle (by omega) (by omega)

/-- READING from frame tick 257. -/
theorem status_reading (r : Reception d l0 c) {k : Nat} (hlow : 257 ≤ k) (hhigh : k ≤ 512) :
    (decoderFeed ((idealSamples d l0).take k) c).status = .reading := by
  have hstart := r.reading_start
  have hend := r.done_start
  rw [List.length_append] at hend
  rw [r.samples]
  exact r.reading.status_at r.feed_sync (by omega) (by omega)

end Reception

/-- With a word in DONE RXHAS answers 1 (`44_accessors.md` R104). -/
theorem exec_rxhas_of_done {s : State} (h : s.dec.status = .done) :
    exec .rxhas s = .next { s with results := s.results ++ [.flag true] } := by
  simp [exec, execRxhas, dataReady, h, State.pushResult]

/-- With a word in DONE RXREAD returns it (`44_accessors.md` R105). -/
theorem exec_rxread_of_done {s : State} (h : s.dec.status = .done) : exec .rxread s = .next { s with
    dec := { s.dec with status := .init }, readHeld := false, results := s.results ++ [.data s.dec.shiftRegister] } := by
  simp [exec, execRxread, dataReady, h, State.pushResult, State.withDec, State.withReadHeld]

/-- Settles O34: the status in each part of the frame, and what the decoder holds at the end. -/
theorem idealFrameRoundTrip : Obligations.IdealFrameRoundTrip := by
  unfold Obligations.IdealFrameRoundTrip
  intro d l0 s hacq
  obtain ⟨r⟩ := Acquirable.reception hacq d
  refine ⟨fun _ => r.status_idle, fun _ => r.status_sync, fun _ => r.status_reading, _, r.feed_take, rfl, rfl,
    fun ls => ?later, exec_rxhas_of_done rfl, exec_rxread_of_done rfl⟩
  case later =>
    rw [decoderFeed_append, r.feed_take]
    exact decoderFeed_of_done ls rfl

/-- Tick turns alone run the decoder over their levels (`60_exceptions.md` R111 and R112). -/
theorem runSteps_ticks {s : State} {ls : List Level} {rest : List Turn} (hmark : s.mark = none)
    (hread : s.readHeld = false) (hen : s.rxCfg.tmrEn = true) (ht : s.turns = ls.map .tickSource ++ rest) :
    runSteps ls.length s = .next { s with dec := decoderFeed ls s.dec, turns := rest } := by
  induction ls generalizing s with
  | nil =>
    obtain rfl : s.turns = rest := ht
    rfl
  | cons level ls ih =>
    have hstep : step s = exec (.tick level) (s.withTurns (ls.map .tickSource ++ rest)) :=
      step_tickSource_of_enabled ⟨hmark, by simp [hread]⟩ ht hen
    rw [exec_tick] at hstep
    rw [List.length_cons, runSteps_succ_of_next hstep]
    exact ih hmark hread hen rfl

/-- A symbol takes 8 samples (`43_decoder.md` R100). -/
theorem length_lineSamples (bs : List Bool) (x : Level) : (lineSamples bs x).length = 8 * bs.length := by
  induction bs generalizing x with
  | nil => rfl
  | cons b bs ih =>
    rw [lineSamples, List.length_append, ih, symbolSamples, List.length_append, List.length_replicate,
      List.length_replicate, List.length_cons]
    omega

/-- The ideal frame has 552 samples (`43_decoder.md` R100). -/
theorem length_idealSamples (d : Payload) (l0 : Level) : (idealSamples d l0).length = 552 := by
  rw [idealSamples, List.length_append, length_lineSamples, length_frameSymbols, List.length_replicate]
  rfl

/-- Settles O35: the machine's ticks are the decoder's, and the frame ends in DONE. -/
theorem machineReceivesIdealFrame : Obligations.MachineReceivesIdealFrame := by
  unfold Obligations.MachineReceivesIdealFrame
  intro d l0 s rest hmark hread hen hacq hturns
  obtain ⟨r⟩ := Acquirable.reception hacq d
  have hrun := runSteps_ticks hmark hread hen hturns
  rw [length_idealSamples, r.feed_frame] at hrun
  exact ⟨_, hrun, rfl, rfl, rfl, rfl⟩

/-- n "1" symbols, a "0" and the toggle that ends it, as cells after the acquisition (`43_decoder.md` R103). -/
theorem Acquires.line_eq {c : Decoder} {l0 : Level} {n : Nat} {lead : List Level} {ks : List Cell}
    (h : Acquires c (!l0) (List.replicate n true ++ [false]) lead ks) :
    lineSamples (List.replicate n true ++ [false]) l0 ++ [l0] = lead ++ cellsSamples ks (!l0) := by
  have hlevel : levelAtEnd (List.replicate n true ++ [false]) l0 = !l0 := by simp [levelAtEnd_eq_xor, List.count_replicate]
  have htoggle := lineSamples_append_toggle (List.replicate n true ++ [false]) l0
  rw [hlevel, Bool.not_not] at htoggle
  rw [htoggle, h.samples]

/-- R103 with 8 "1" symbols or more. -/
theorem Acquires.locks {c : Decoder} {l0 : Level} {n : Nat} {lead : List Level} {ks : List Cell}
    (h : Acquires c (!l0) (List.replicate n true ++ [false]) lead ks) (hn : 8 ≤ n) :
    (decoderFeed (lineSamples (List.replicate n true ++ [false]) l0) c).status = .sync ∧
    (decoderFeed (lineSamples (List.replicate n true ++ [false]) l0 ++ [l0]) c).status = .reading := by
  obtain ⟨m, rfl⟩ := Nat.exists_eq_add_of_le hn
  have hline := h.line_eq
  have hcarries := h.carries
  rw [List.replicate_add, List.append_assoc] at hcarries
  obtain ⟨ks, js, rfl, hpreamble, hmarker⟩ := carries_append_iff.mp hcarries
  have hidle := through_idle hpreamble (m := 0) (by omega) (by omega) 0#32 (!l0)
  have hsync := through_startMarker hmarker 8 0#32 (!l0)
  rw [cellsSamples_append, hpreamble.bits, levelAtEnd_replicate_true, ← List.append_assoc] at hline
  have hfeed : decoderFeed (lead ++ cellsSamples ks (!l0)) c = atCell .sync 0#32 8 (!l0) := by
    rw [decoderFeed_append, h.ends]
    exact hidle.ends
  have hpos := hmarker.length_samples_pos (by simp) (!l0)
  have hlength := congrArg List.length hline
  rw [List.length_append, List.length_singleton, List.length_append] at hlength
  have hbefore : lineSamples (List.replicate (8 + m) true ++ [false]) l0 =
      (lead ++ cellsSamples ks (!l0) ++ cellsSamples js (!l0) ++ []).take
        (lineSamples (List.replicate (8 + m) true ++ [false]) l0).length := by
    rw [List.append_nil, ← hline, List.take_left]
  constructor
  · rw [hbefore]
    exact hsync.status_at hfeed (by omega) (by omega)
  · rw [hline, decoderFeed_append, hfeed, hsync.ends]
    rfl

/-- R103 with fewer than 8 "1" symbols. -/
theorem Acquires.discards {c : Decoder} {l0 : Level} {n : Nat} {lead : List Level} {ks : List Cell}
    (h : Acquires c (!l0) (List.replicate n true ++ [false]) lead ks) (hn : n < 8) :
    (∀ k, 1 ≤ k →
      (decoderFeed ((lineSamples (List.replicate n true ++ [false]) l0).take k) c).status ≠ .sync) ∧
    (decoderFeed (lineSamples (List.replicate n true ++ [false]) l0 ++ [l0]) c).status = .init := by
  have hline := h.line_eq
  obtain ⟨c', hidle, hinit⟩ := through_shortPreamble h.carries hn 0#32 (!l0)
  have hlength := congrArg List.length hline
  rw [List.length_append, List.length_singleton, List.length_append] at hlength
  have hlong : 1 ≤ (lineSamples (List.replicate n true ++ [false]) l0).length := by
    rw [length_lineSamples, List.length_append, List.length_singleton]
    omega
  constructor
  · intro k hk
    have hbefore : (lineSamples (List.replicate n true ++ [false]) l0).take k =
        (lead ++ cellsSamples ks (!l0) ++ []).take
          (min k (lineSamples (List.replicate n true ++ [false]) l0).length) := by
      rw [List.append_nil, ← hline, ← List.take_take, List.take_left]
    rw [hbefore]
    by_cases hlead : min k (lineSamples (List.replicate n true ++ [false]) l0).length ≤ lead.length
    · rw [List.append_assoc, List.take_append_of_le_length hlead]
      exact h.noSync _ (by omega) hlead
    · rw [hidle.status_at h.ends (by omega) (by omega)]
      exact nofun
  · rw [hline, decoderFeed_append, h.ends]
    exact (congrArg Decoder.status hidle.ends).trans hinit

/-- Settles O37: the cells of n "1" symbols and a "0" in IDLE, and in SYNC from the eighth on. -/
theorem preambleOfEightLocks : Obligations.PreambleOfEightLocks := by
  unfold Obligations.PreambleOfEightLocks
  intro n l0 c hacq
  obtain ⟨lead, ks, h⟩ := Acquirable.acquires hacq (bs := List.replicate n true ++ [false]) (by simp)
  exact ⟨h.locks, fun hn => h.discards (Nat.lt_succ_of_le hn)⟩

/-! Acquisition from the middle of a symbol (`43_decoder.md` R102): the preamble's mid-cell toggles end the cells. -/

/-- "1" symbols, seen half a symbol late, are ideal cells too. -/
theorem lineSamples_ones_shifted (n : Nat) (x : Level) :
    List.replicate 3 x ++ lineSamples (List.replicate n true) x =
      cellsSamples ((List.replicate n true).map idealCell) x ++ List.replicate 3 x := by
  induction n with
  | zero => rfl
  | succ n ih =>
    have hsymbol : List.replicate 3 x ++ symbolSamples true x = (idealCell true).samples x ++ List.replicate 3 x := by
      cases x <;> rfl
    rw [List.replicate_succ (n := n), lineSamples, ← List.append_assoc, hsymbol, List.append_assoc]
    exact (congrArg _ ih).trans (List.append_assoc _ _ _).symm

/-- Eight "1" cells, the first with `t` silent ticks before the frame's first toggle (`43_decoder.md` R102). -/
def shiftedPreamble (t : Nat) : List Cell := ⟨true, t + 1, t + 5⟩ :: (List.replicate 7 true).map idealCell

/-- The other "1" cells, the last of them the 12 ticks that hold the start marker (`43_decoder.md` R102). -/
def shiftedMarker : List Cell := (List.replicate 23 true).map idealCell ++ [⟨true, 4, 12⟩]

/-- With 1 to 5 silent ticks before it the first cell is in its window. -/
theorem shiftedPreamble_inWindow {t : Nat} (hlow : 1 ≤ t) (hhigh : t ≤ 5) :
    (Cell.mk true (t + 1) (t + 5)).inWindow := by
  simp [Cell.inWindow]
  omega

/-- The first eight cells are preamble bits. -/
theorem carries_shiftedPreamble {t : Nat} (hlow : 1 ≤ t) (hhigh : t ≤ 5) :
    Carries (List.replicate 8 true) (shiftedPreamble t) :=
  carries_cons_iff.mpr ⟨_, _, rfl, rfl, shiftedPreamble_inWindow hlow hhigh, carries_idealCells _⟩

/-- The other cells are preamble bits too, the start marker's included. -/
theorem carries_shiftedMarker : Carries (List.replicate 24 true) shiftedMarker :=
  carries_append_iff.mpr ⟨_, _, rfl, carries_idealCells (List.replicate 23 true),
    carries_singleton_iff.mpr ⟨⟨true, 4, 12⟩, rfl, rfl, by decide⟩⟩

/-- The eighth cell ends at frame tick 61. -/
theorem length_shiftedPreamble {t : Nat} (hlow : 1 ≤ t) (hhigh : t ≤ 5) (x : Level) :
    (cellsSamples (shiftedPreamble t) x).length = t + 61 := by
  rw [shiftedPreamble, cellsSamples, List.length_append, Cell.length_samples (shiftedPreamble_inWindow hlow hhigh),
    length_cellsSamples_ideal, List.length_replicate]

/-- The last cell ends at frame tick 257. -/
theorem length_shiftedMarker (x : Level) : (cellsSamples shiftedMarker x).length = 196 := by
  rw [shiftedMarker, cellsSamples_append, List.length_append, length_cellsSamples_ideal, List.length_replicate]
  rfl

/-- The channel's symbols from the preamble's first to the payload's first toggle. -/
theorem idealSamples_eq_preamble (d : Payload) (l0 : Level) : ∃ after, idealSamples d l0 =
    symbolSamples true l0 ++ lineSamples (List.replicate 30 true) l0 ++ symbolSamples false l0 ++ [l0] ++ after := by
  obtain ⟨p, ps, hp⟩ := List.exists_cons_of_ne_nil (l := payloadBits d ++ [false]) (by simp)
  obtain ⟨after, hafter⟩ := lineSamples_cons_eq p ps (!l0)
  rw [← hp, Bool.not_not] at hafter
  have hsymbols : frameSymbols d = [true] ++ List.replicate 30 true ++ [false] ++ (payloadBits d ++ [false]) := by
    simp [frameSymbols, preambleTx, List.replicate_succ]
  have hlevel : levelAtEnd ([true] ++ List.replicate 30 true ++ [false]) l0 = !l0 := by simp [levelAtEnd_eq_xor]
  have hone : levelAtEnd ([true] ++ List.replicate 30 true) l0 = l0 := by simp [levelAtEnd_eq_xor]
  refine ⟨after ++ List.replicate (guardBits * oversampling) false, ?_⟩
  rw [idealSamples, hsymbols, lineSamples_append, hlevel, hafter, lineSamples_append, hone, lineSamples_append]
  simp [lineSamples, levelAtEnd, levelAfter]

/-- The first 257 frame ticks after `t` silent ones, by mid-cell toggles (`43_decoder.md` R102). -/
theorem idealSamples_shifted (d : Payload) (l0 : Level) (t : Nat) : ∃ after,
    List.replicate t l0 ++ idealSamples d l0 =
      cellsSamples (shiftedPreamble t) l0 ++ cellsSamples shiftedMarker l0 ++ after := by
  obtain ⟨after, hafter⟩ := idealSamples_eq_preamble d l0
  have hfirst : List.replicate t l0 ++ symbolSamples true l0 =
      (Cell.mk true (t + 1) (t + 5)).samples l0 ++ List.replicate 3 l0 := by
    simp [symbolSamples, Cell.samples, levelAfter, List.replicate_succ]
  have hones := lineSamples_ones_shifted 30 l0
  rw [List.replicate_add 7 23 true, cellsSamples_ideal_append, levelAtEnd_replicate_true] at hones
  have hmarker : List.replicate 3 l0 ++ symbolSamples false l0 ++ [l0] = (Cell.mk true 4 12).samples l0 := by
    cases l0 <;> rfl
  refine ⟨after, ?_⟩
  calc List.replicate t l0 ++ idealSamples d l0
      = (List.replicate t l0 ++ symbolSamples true l0) ++ lineSamples (List.replicate 30 true) l0 ++
          (symbolSamples false l0 ++ [l0]) ++ after := by simp only [hafter, List.append_assoc]
    _ = (Cell.mk true (t + 1) (t + 5)).samples l0 ++
          (List.replicate 3 l0 ++ lineSamples (List.replicate 30 true) l0) ++
          (symbolSamples false l0 ++ [l0]) ++ after := by simp only [hfirst, List.append_assoc]
    _ = (Cell.mk true (t + 1) (t + 5)).samples l0 ++ cellsSamples ((List.replicate 7 true).map idealCell) l0 ++
          (cellsSamples ((List.replicate 23 true).map idealCell) l0 ++ (Cell.mk true 4 12).samples l0) ++ after := by
        simp only [List.replicate_add 7 23 true, hones, ← hmarker, List.append_assoc]
    _ = _ := by
        rw [shiftedPreamble, shiftedMarker, cellsSamples_append, (carries_idealCells _).bits, levelAtEnd_replicate_true]
        simp [cellsSamples, levelAfter]

/-- A decoder in IDLE that has counted silent ticks and nothing else is in the middle of a cell's silent start. -/
theorem decoderFeed_silent_atCell {c : Decoder} (hidle : c.status = .idle) (htrans : c.transitionsThisCell = 0#2)
    (hbits : c.bitsReceived = 0#8) :
    decoderFeed (List.replicate c.ticksSinceTransition.toNat c.previousLevel)
      (atCell .idle c.shiftRegister 0 c.previousLevel) = c := by
  have hticks := c.ticksSinceTransition.isLt
  have hmin : min (0 + c.ticksSinceTransition.toNat) 255 = c.ticksSinceTransition.toNat := by omega
  refine (decoderFeed_silent _ (c := atCell .idle c.shiftRegister 0 c.previousLevel) ⟨nofun, nofun⟩).trans ?_
  obtain ⟨status, shift, bits, ticks, transitions, level⟩ := c
  subst hidle htrans hbits
  simpa [atCell] using congrArg (BitVec.ofNat 8) hmin

/-- Ticks before a line, and then the line up to its tick `k`. -/
theorem decoderFeed_take_of_before {before ls : List Level} {c₀ c : Decoder} (h : decoderFeed before c₀ = c) (k : Nat) :
    decoderFeed (ls.take k) c = decoderFeed ((before ++ ls).take (before.length + k)) c₀ := by
  rw [List.take_length_add_append, decoderFeed_append, h]

/-- Settles O38: the silent ticks before the frame are the start of its first cell. -/
theorem misalignedAcquisitionSyncsEarly : Obligations.MisalignedAcquisitionSyncsEarly := by
  unfold Obligations.MisalignedAcquisitionSyncsEarly
  rintro d l0 c hidle rfl htrans hbits hlow hhigh
  have hbefore := decoderFeed_silent_atCell hidle htrans hbits
  generalize c.ticksSinceTransition.toNat = t at hlow hhigh hbefore
  obtain ⟨after, hsamples⟩ := idealSamples_shifted d c.previousLevel t
  have hpreamble := through_idle (carries_shiftedPreamble hlow hhigh) (m := 0) (by omega) (by omega) c.shiftRegister
    c.previousLevel
  have hmarker := through_sync carries_shiftedMarker 8 c.shiftRegister c.previousLevel
  have hidleLength := length_shiftedPreamble hlow hhigh c.previousLevel
  have hsyncLength := length_shiftedMarker c.previousLevel
  refine ⟨fun k hk => ?idle, fun k hk hk' => ?sync⟩
  case idle =>
    rw [decoderFeed_take_of_before hbefore, hsamples, List.length_replicate, List.append_assoc]
    exact hpreamble.status_at (before := []) rfl (Nat.zero_le _) (by rw [List.length_nil]; omega)
  case sync =>
    rw [decoderFeed_take_of_before hbefore, hsamples, List.length_replicate]
    exact hmarker.status_at_le rfl hpreamble.ends (by omega) (by omega)

end Sys2Proof.Machine
end

section
/-! PROOFS. The timed line at the instants of ticks (`43_decoder.md` R100, `42_receiver_config.md` R85,
`41_transmitter.md` R81). -/

namespace Sys2Proof.Machine

section Timed

variable {p : Nat} {phase : ℚ}

/-- The instant of frame tick `i + 1`: strictly inside the tick period that starts at `i` periods. -/
def insidePeriod (p : Nat) (phase : ℚ) (i : Nat) : ℚ := phase + (i : ℚ) * (p : ℚ)

/-- The instants of ticks after the first toggle (`42_receiver_config.md` R85). -/
theorem tickInstant_succ (p : Nat) (phase : ℚ) (i : Nat) : tickInstant 0 phase p (i + 1) = insidePeriod p phase i := by
  simp [tickInstant, insidePeriod]

/-- An event at a whole number of periods has acted at a tick exactly if that number of ticks has come before. -/
theorem periods_le_insidePeriod (hlow : 0 < phase) (hhigh : phase < (p : ℚ)) (u i : Nat) :
    ((u * p : Nat) : ℚ) ≤ insidePeriod p phase i ↔ u ≤ i := by
  have hp : (0 : ℚ) ≤ (p : ℚ) := Nat.cast_nonneg p
  rw [insidePeriod, Nat.cast_mul]
  constructor
  · intro h
    by_contra hu
    have hnext : (i : ℚ) + 1 ≤ (u : ℚ) := by exact_mod_cast Nat.lt_of_not_le hu
    have hmul := mul_le_mul_of_nonneg_right hnext hp
    linarith
  · intro h
    have hle : (u : ℚ) ≤ (i : ℚ) := by exact_mod_cast h
    have hmul := mul_le_mul_of_nonneg_right hle hp
    linarith

/-- An event in the past sets the level. -/
theorem levelAt_drive_of_le {u : Nat} {l x : Level} {t : ℚ} (h : (u : ℚ) ≤ t) (es : List LineEvent) :
    levelAt (.drive u l :: es) x t = levelAt es l t := if_pos h

/-- An event in the future hides all after it. -/
theorem levelAt_drive_of_not_le {u : Nat} {l x : Level} {t : ℚ} (h : ¬ (u : ℚ) ≤ t) (es : List LineEvent) :
    levelAt (.drive u l :: es) x t = x := if_neg h

/-- The events of symbols that begin `s` bits of 8 ticks after the frame, and the guard's after them. -/
def eventsFrom (p s : Nat) (x : Level) (bs : List Bool) : List LineEvent :=
  symbolEvents (8 * p) (4 * p) ((8 * s) * p) x bs ++ [.drive ((8 * (s + bs.length)) * p) false]

/-- The guard's event alone. -/
theorem eventsFrom_nil (p s : Nat) (x : Level) : eventsFrom p s x [] = [.drive ((8 * s) * p) false] := rfl

/-- A symbol's events and then the others, one bit later. -/
theorem eventsFrom_cons (p s : Nat) (x : Level) (b : Bool) (bs : List Bool) : eventsFrom p s x (b :: bs) =
    toggleEvents (4 * p) ((8 * s) * p) x b ++ eventsFrom p (s + 1) (levelAfter b x) bs := by
  have hcell : (8 * s) * p + 8 * p = (8 * (s + 1)) * p := by ring
  have hlength : s + (bs.length + 1) = s + 1 + bs.length := by omega
  rw [eventsFrom, symbolEvents_cons, hcell, List.length_cons, hlength, List.append_assoc]
  rfl

/-- The first event of what begins `s` bits after the frame is at that instant. -/
theorem eventsFrom_head (p s : Nat) (x : Level) (bs : List Bool) :
    ∃ l es, eventsFrom p s x bs = .drive ((8 * s) * p) l :: es := by
  cases bs with
  | nil => exact ⟨_, _, eventsFrom_nil p s x⟩
  | cons b bs => exact ⟨_, _, eventsFrom_cons p s x b bs⟩

/-- Before the symbols begin they do not act. -/
theorem levelAt_eventsFrom_of_lt (hlow : 0 < phase) (hhigh : phase < (p : ℚ)) (bs : List Bool) {s i : Nat}
    (hi : i < 8 * s) (x : Level) : levelAt (eventsFrom p s x bs) x (insidePeriod p phase i) = x := by
  obtain ⟨l, es, hhead⟩ := eventsFrom_head p s x bs
  rw [hhead]
  exact levelAt_drive_of_not_le (mt (periods_le_insidePeriod hlow hhigh _ _).mp (by omega)) es

/-- A symbol's toggles: a "1" is back at its first level half a bit after its start. -/
theorem levelAt_toggleEvents (hlow : 0 < phase) (hhigh : phase < (p : ℚ)) (b : Bool) (s i : Nat) (x : Level)
    (es : List LineEvent) :
    levelAt (toggleEvents (4 * p) ((8 * s) * p) x b ++ es) x (insidePeriod p phase (8 * s + i)) =
      if b = true ∧ i < 4 then !x else levelAt es (levelAfter b x) (insidePeriod p phase (8 * s + i)) := by
  have hacts := periods_le_insidePeriod hlow hhigh
  have htoggle : ((8 * s * p : Nat) : ℚ) ≤ insidePeriod p phase (8 * s + i) := (hacts _ _).mpr (by omega)
  rw [toggleEvents, List.cons_append, levelAt_drive_of_le htoggle]
  cases b with
  | false => simp [levelAfter]
  | true =>
    have hmid : (8 * s) * p + 4 * p = (8 * s + 4) * p := by ring
    rw [if_pos rfl, List.singleton_append, hmid]
    by_cases hi : i < 4
    · rw [levelAt_drive_of_not_le (mt (hacts _ _).mp (by omega)), if_pos ⟨rfl, hi⟩]
    · rw [levelAt_drive_of_le ((hacts _ _).mpr (by omega)), if_neg (by simp [hi])]
      rfl

/-- A symbol's samples: the toggled level for 4 ticks and the symbol's last level for 4. -/
theorem symbolSamples_getElem? (b : Bool) (x : Level) {i : Nat} (hi : i < 8) :
    (symbolSamples b x)[i]? = some (if i < 4 then !x else levelAfter b x) := by
  revert i
  cases b <;> cases x <;> decide

/-- The timed line at the ticks from the first of these symbols on is the symbols' samples, and low after them. -/
theorem levelAt_eventsFrom (hlow : 0 < phase) (hhigh : phase < (p : ℚ)) (bs : List Bool) (s i : Nat) (x : Level) :
    levelAt (eventsFrom p s x bs) x (insidePeriod p phase (8 * s + i)) = (lineSamples bs x).getD i false := by
  induction bs generalizing s i x with
  | nil =>
    rw [eventsFrom_nil, levelAt_drive_of_le ((periods_le_insidePeriod hlow hhigh _ _).mpr (by omega))]
    rfl
  | cons b bs ih =>
    have hlength : (symbolSamples b x).length = 8 := by simp [symbolSamples]
    rw [eventsFrom_cons, levelAt_toggleEvents hlow hhigh, lineSamples, List.getD_eq_getElem?_getD]
    by_cases hin : i < 8
    · rw [List.getElem?_append_left (by omega), symbolSamples_getElem? b x hin,
        levelAt_eventsFrom_of_lt hlow hhigh bs (by omega)]
      cases b <;> simp [levelAfter]
    · obtain ⟨i, rfl⟩ := Nat.exists_eq_add_of_le (Nat.le_of_not_lt hin)
      have htick : 8 * s + (8 + i) = 8 * (s + 1) + i := by omega
      rw [if_neg (by omega), htick, ih, List.getElem?_append_right (by omega), hlength, Nat.add_sub_cancel_left,
        List.getD_eq_getElem?_getD]

end Timed

/-- The guard's samples are the low level that comes after them too (`43_decoder.md` R100). -/
theorem idealLevel_succ (d : Payload) (l0 : Level) (i : Nat) :
    idealLevel d l0 (i + 1) = (lineSamples (frameSymbols d) l0).getD i false := by
  have hguard : ∀ n k : Nat, ((List.replicate n false)[k]?).getD false = false := by
    intro n k
    rw [List.getElem?_replicate]
    split <;> rfl
  rw [idealLevel, idealSamples, Nat.add_sub_cancel, List.getD_eq_getElem?_getD, List.getD_eq_getElem?_getD,
    List.getElem?_append]
  split
  · rfl
  · next hi => rw [hguard, List.getElem?_eq_none (Nat.le_of_not_lt hi)]; rfl

/-- Settles O41: with 8 periods to a bit every event of the frame stands at a whole number of periods. -/
theorem timedLineGivesIdealSamples : Obligations.TimedLineGivesIdealSamples := by
  unfold Obligations.TimedLineGivesIdealSamples
  intro d l0 c p j phase heven hbit hlow hhigh hj
  obtain ⟨i, rfl⟩ : ∃ i, j = i + 1 := ⟨j - 1, by omega⟩
  have hevents : frameEvents c d l0 = eventsFrom p 0 l0 (frameSymbols d) := by
    have hcell : c * cyclesPerCount = 8 * p := hbit
    have hhalf : c / 2 * cyclesPerCount = 4 * p := by simp only [cyclesPerCount]; omega
    have hend : 65 * (8 * p) = 8 * 65 * p := by ring
    simp [frameEvents, eventsFrom, hcell, hhalf, length_frameSymbols, hend]
  rw [tickInstant_succ, hevents, idealLevel_succ, ← levelAt_eventsFrom hlow hhigh (frameSymbols d) 0 i l0, Nat.mul_zero,
    Nat.zero_add]

end Sys2Proof.Machine
end

section
/-! PROOFS. The host's accessors (`44_accessors.md` R104 to R107): what RXHAS and RXREAD answer, the turns of a held
RXREAD, and the runs in which a word waits or never comes. -/

namespace Sys2Proof.Machine

section Views

/-! The two views of the results: each shows the latest result of its own kind (log 13). -/

variable {s t : State} {b : Bool} {w : Payload}

/-- A flag result is the new `res_flag`. -/
theorem State.resFlag_of_flag (h : t.results = s.results ++ [.flag b]) : t.resFlag = some b := by
  simp [State.resFlag, h, HostResult.flag?]

/-- A word result is no flag. -/
theorem State.resFlag_of_data (h : t.results = s.results ++ [.data w]) : t.resFlag = s.resFlag := by
  simp [State.resFlag, h, HostResult.flag?]

/-- A flag result is no word. -/
theorem State.resData_of_flag (h : t.results = s.results ++ [.flag b]) : t.resData = s.resData := by
  simp [State.resData, h, HostResult.data?]

/-- A word result is the new `res_data`. -/
theorem State.resData_of_data (h : t.results = s.results ++ [.data w]) : t.resData = some w := by
  simp [State.resData, h, HostResult.data?]

end Views

/-- RXHAS answers `data_ready` (`44_accessors.md` R104). -/
theorem exec_rxhas (s : State) : exec .rxhas s = .next (s.pushResult (.flag (dataReady s.dec))) := rfl

/-- RXHAS's answer shows on `res_flag` (`44_accessors.md` R104). -/
theorem resFlag_of_exec_rxhas {s t : State} (h : exec .rxhas s = .next t) : t.resFlag = some (dataReady s.dec) := by
  obtain rfl := eq_of_exec_rxhas h
  exact State.resFlag_of_flag rfl

/-- Settles O42: the answer is a view of the decoder, which RXHAS leaves as it was. -/
theorem rxhasAnswersDataReady : Obligations.RxhasAnswersDataReady := by
  unfold Obligations.RxhasAnswersDataReady
  intro s
  have hfirst := exec_rxhas s
  have hagain := exec_rxhas (s.pushResult (.flag (dataReady s.dec)))
  exact ⟨_, _, hfirst, resFlag_of_exec_rxhas hfirst, State.resData_of_flag rfl, rfl, hagain,
    (resFlag_of_exec_rxhas hagain).trans (resFlag_of_exec_rxhas hfirst).symm⟩

/-- RXREAD with no word there (`44_accessors.md` R105). -/
theorem exec_rxread_of_not_done {s : State} (h : s.dec.status ≠ .done) :
    exec .rxread s = .next (s.withReadHeld true) := by
  simp [exec, execRxread, dataReady, h]

/-- Settles O43: the state after the read, and its views. -/
theorem rxreadReturnsHeldWord : Obligations.RxreadReturnsHeldWord := by
  unfold Obligations.RxreadReturnsHeldWord
  intro s hdone
  refine ⟨_, exec_rxread_of_done hdone, State.resData_of_data rfl, State.resFlag_of_data rfl, ?hold, rfl, rfl⟩
  case hold => exact Bool.or_false s.txRun.busy

/-- With no word there the schedule decides, held or not. -/
theorem scheduleDecides_of_not_done {s : State} (hmark : s.mark = none) (h : s.dec.status ≠ .done) :
    ScheduleDecides s :=
  ⟨hmark, fun hread => h hread.2⟩

/-- An RXREAD holds the host (`44_accessors.md` R105). -/
theorem State.hostHold_of_readHeld {s : State} (h : s.readHeld = true) : s.hostHold = true := by
  simp [State.hostHold, h]

/-- Settles O44: RXREAD's other answer, and the turns of the held host and of the tick source. -/
theorem rxreadHoldsUntilDone : Obligations.RxreadHoldsUntilDone := by
  unfold Obligations.RxreadHoldsUntilDone
  intro s hnot
  refine ⟨exec_rxread_of_not_done hnot, fun ts hmark hheld ht => ?held, fun ts level hmark hen ht => ?tick⟩
  case held => exact step_host_of_held (scheduleDecides_of_not_done hmark hnot) ht (State.hostHold_of_readHeld hheld)
  case tick =>
    have hs := scheduleDecides_of_not_done hmark hnot
    exact (step_tickSource_of_enabled hs ht hen).trans (exec_tick level _)

/-- A held RXREAD goes first once its word is there, whatever the schedule (`44_accessors.md` R105, log 5). -/
theorem step_of_heldRead {s : State} (hmark : s.mark = none) (hheld : s.readHeld = true)
    (hdone : s.dec.status = .done) : step s = exec .rxread s := by
  simp [step, State.fetch, hmark, hheld, dataReady, hdone]

/-- Settles O45: the held RXREAD runs with its word there. -/
theorem heldReadTakenAtDone : Obligations.HeldReadTakenAtDone := by
  unfold Obligations.HeldReadTakenAtDone
  intro s hmark hheld hdone
  rw [step_of_heldRead hmark hheld hdone, exec_rxread_of_done hdone]

/-! The polling pattern (`44_accessors.md` R106 and R107): a word that is there stays, and the read takes it. -/

/-- RXHAS answers 1 only where a word is there. -/
theorem done_of_exec_rxhas {s : State}
    (h : exec .rxhas s = .next { s with results := s.results ++ [.flag true] }) : s.dec.status = .done := by
  rw [exec_rxhas] at h
  have hresults := congrArg State.results (Host.Outcome.next.inj h)
  simpa [dataReady] using hresults

/-- With a word there a tick turn passes, with the tick source running or off (`43_decoder.md` R87). -/
theorem step_tickSource_of_done {s : State} {ts : List Turn} {level : Level} (hs : ScheduleDecides s)
    (hdone : s.dec.status = .done) (ht : s.turns = .tickSource level :: ts) : step s = .next (s.withTurns ts) := by
  cases hen : s.rxCfg.tmrEn with
  | false => exact step_tickSource_of_disabled hs ht hen
  | true =>
    have hdrop : decoderTick level s.dec = s.dec := decoderTick_of_done level hdone
    rw [step_tickSource_of_enabled hs ht hen, exec_tick, State.withTurns_dec, hdrop]
    rfl

/-- With a word there any number of tick turns passes (`44_accessors.md` R106). -/
theorem runSteps_ticks_of_done {s : State} {ls : List Level} {rest : List Turn} (hs : ScheduleDecides s)
    (hdone : s.dec.status = .done) (ht : s.turns = ls.map .tickSource ++ rest) :
    runSteps ls.length s = .next (s.withTurns rest) := by
  induction ls generalizing s with
  | nil =>
    obtain rfl : s.turns = rest := ht
    rfl
  | cons level ls ih =>
    rw [List.length_cons, runSteps_succ_of_next (step_tickSource_of_done hs hdone ht)]
    exact ih hs hdone rfl

/-- A host that nothing holds has no RXREAD waiting. -/
theorem State.readHeld_of_host_free {s : State} (h : s.hostHold = false) : s.readHeld = false :=
  (Bool.or_eq_false_iff.mp h).2

/-- Byte 0x04 is RXREAD, whatever stands on the operand ports (`30_encoding.md` R43 and R45). -/
theorem decode_cmd_rxread {p : CmdPort} (h : p.cmd = 0x04#8) : decode (.cmd p) = .instr .rxread :=
  decode_cmd_eq_instr_iff.mpr (by simp [h])

/-- Settles O46: the ticks are dropped, and then the host's turn reads. -/
theorem polledReadReturnsTheHeldWord : Obligations.PolledReadReturnsTheHeldWord := by
  unfold Obligations.PolledReadReturnsTheHeldWord
  intro s ls p prog ts hmark hfree hrxhas hcmd hprog hturns
  have hdone := done_of_exec_rxhas hrxhas
  have hread := State.readHeld_of_host_free hfree
  have hs : ScheduleDecides s := ⟨hmark, by simp [hread]⟩
  have hticks := runSteps_ticks_of_done hs hdone hturns
  have hlast : step (s.withTurns (.host :: ts)) = exec .rxread ((s.withTurns ts).withHostProg prog) :=
    step_host_of_decode hs rfl hfree hprog (decode_cmd_rxread hcmd)
  have hword := exec_rxread_of_done (s := (s.withTurns ts).withHostProg prog) hdone
  rw [runSteps_add 1 hticks, runSteps_succ_of_next (hlast.trans hword), hread, runSteps_zero]
  rfl

/-! An RXREAD before any RXBEGIN (`44_accessors.md` R105 corner case 2). -/

/-- With no turn left nothing moves (`70_reset_and_hazards.md` R126, log 3). -/
theorem step_of_no_turn {s : State} (hs : ScheduleDecides s) (ht : s.turns = []) : step s = .next s := by
  obtain ⟨hmark, hread⟩ := hs
  have hnot : (s.readHeld && Machine.dataReady s.dec) = false := by simpa [dataReady] using hread
  simp [step, State.fetch, hmark, hnot, ht]

/-- The host waits in RXREAD, no other agent has anything to do, and no reset is to come. -/
structure WaitsForEver (s : State) : Prop where
  unmarked : s.mark = none
  held : s.readHeld = true
  noTicks : s.rxCfg.tmrEn = false
  noFrame : s.txRun.busy = false
  noWord : s.dec.status = .init
  noReset : Turn.rst ∉ s.turns

namespace WaitsForEver

variable {s : State}

/-- The schedule decides every step of such a state. -/
theorem scheduleDecides (h : WaitsForEver s) : ScheduleDecides s :=
  scheduleDecides_of_not_done h.unmarked (by simp [h.noWord])

/-- Whatever agent's turn it is, the turn passes. -/
theorem step_eq (h : WaitsForEver s) : step s = .next (s.withTurns s.turns.tail) := by
  have hs := h.scheduleDecides
  cases ht : s.turns with
  | nil => rw [step_of_no_turn hs ht, List.tail_nil, ← ht]; rfl
  | cons turn ts =>
    cases turn with
    | rst => exact absurd (by simp [ht]) h.noReset
    | host => exact step_host_of_held hs ht (State.hostHold_of_readHeld h.held)
    | txSequencer => exact step_txSequencer_of_idle hs ht h.noFrame
    | tickSource level => exact step_tickSource_of_disabled hs ht h.noTicks

/-- Such a state stays one when a turn has passed. -/
theorem withTurns_tail (h : WaitsForEver s) : WaitsForEver (s.withTurns s.turns.tail) :=
  { h with noReset := fun hmem => h.noReset (List.mem_of_mem_tail hmem) }

/-- Every run only takes turns off the schedule. -/
theorem runSteps_eq (h : WaitsForEver s) (n : Nat) : runSteps n s = .next (s.withTurns (s.turns.drop n)) := by
  induction n generalizing s with
  | zero => rfl
  | succ n ih =>
    rw [runSteps_succ_of_next h.step_eq, ih h.withTurns_tail, State.withTurns_turns, List.drop_tail]
    rfl

end WaitsForEver

/-- Settles O58: the waiting state is kept by every turn. -/
theorem readBeforeBeginHoldsForEver : Obligations.ReadBeforeBeginHoldsForEver := by
  unfold Obligations.ReadBeforeBeginHoldsForEver
  intro n s hmark hheld hoff hidle hinit hrst
  have hwaits : WaitsForEver s := ⟨hmark, hheld, hoff, hidle, hinit, hrst⟩
  exact ⟨_, hwaits.runSteps_eq n, rfl⟩

end Sys2Proof.Machine
end

section
/-! PROOFS. Exceptions, refusals and the tick interrupt (`60_exceptions.md`): every operation answers, a legal state never
faults, a marked state stops, and only reset stops the tick source. -/

namespace Sys2Proof.Machine

/-- Settles O57: each operation's answers, a refused command's among them, are next states. -/
theorem everyOperationAnswersANextState : Obligations.EveryOperationAnswersANextState := by
  unfold Obligations.EveryOperationAnswersANextState
  intro i s
  cases i with
  | txbegin pin rate =>
    cases hr : txRateRefusal s.coreClockHz.val rate.toNat with
    | some r => exact ⟨_, exec_txbegin_of_refusal pin hr⟩
    | none => exact ⟨_, exec_txbegin_of_accepted pin hr⟩
  | txsend data =>
    cases hv : s.txCfg.cfgValid with
    | false => exact ⟨_, exec_txsend_of_unconfigured data hv⟩
    | true => exact ⟨_, exec_txsend_of_configured data hv⟩
  | rxbegin pin rate =>
    cases hr : rxRateRefusal s.coreClockHz.val rate.toNat with
    | some r => exact ⟨_, exec_rxbegin_of_refusal pin hr⟩
    | none => exact ⟨_, exec_rxbegin_of_accepted pin hr⟩
  | rxhas => exact ⟨_, exec_rxhas s⟩
  | rxread =>
    by_cases hd : s.dec.status = .done
    · exact ⟨_, exec_rxread_of_done hd⟩
    · exact ⟨_, exec_rxread_of_not_done hd⟩
  | tick level => exact ⟨_, exec_tick level s⟩
  | tgl => exact ⟨_, exec_tgl s⟩
  | waith => exact ⟨_, exec_waith s⟩
  | waitf => exact ⟨_, exec_waitf s⟩
  | drvlo => exact ⟨_, exec_drvlo s⟩

/-- The host's port brings no overrun. -/
theorem fetchCommand_ne_overrun (s : State) : fetchCommand s ≠ .overrun := by
  cases hp : s.hostProg with
  | nil => simp [fetchCommand, hp]
  | cons p rest => cases hd : decode (.cmd p) <;> simp [fetchCommand, hp, hd]

/-- Only a busy sequencer past the end of its program overruns (`41_transmitter.md` R70, log 20). -/
theorem fetchTurn_eq_overrun {turn : Turn} {s : State} (h : fetchTurn turn s = .overrun) :
    s.txRun.busy = true ∧ s.microAt = none := by
  cases turn with
  | rst => cases h
  | host =>
    cases hh : s.hostHold with
    | true => simp [fetchTurn, hh] at h
    | false => exact absurd (by simpa [fetchTurn, hh] using h) (fetchCommand_ne_overrun s)
  | txSequencer =>
    cases hb : s.txRun.busy with
    | false => simp [fetchTurn, hb] at h
    | true => cases hu : s.microAt with
      | none => exact ⟨rfl, rfl⟩
      | some u => simp [fetchTurn, hb, fetchMicro, hu] at h
  | tickSource level => cases he : s.rxCfg.tmrEn <;> simp [fetchTurn, he, fetchTick, decode, decodeEvent] at h

/-- A state's overrun is the overrun of the agent whose turn it is. -/
theorem State.fetch_eq_overrun {s : State} (h : s.fetch = .overrun) : s.txRun.busy = true ∧ s.microAt = none := by
  unfold State.fetch at h
  split at h
  · cases h
  · split at h
    · cases h
    · split at h
      · cases h
      · obtain ⟨hbusy, hend⟩ := fetchTurn_eq_overrun h
        exact ⟨hbusy, hend⟩

/-- No operation faults, so a fault of the step is an overrun of the sequencer. -/
theorem fetch_eq_overrun_of_step_eq_fault {s : State} {f : Fault} (h : step s = .fault f) : s.fetch = .overrun := by
  cases hf : s.fetch with
  | overrun => rfl
  | halted r => simp [step, hf] at h
  | quiet t => simp [step, hf] at h
  | operation i t =>
    obtain ⟨u, hu⟩ := everyOperationAnswersANextState i t
    simp [step, hf, hu] at h
  | microOp i t =>
    obtain ⟨u, hu⟩ := everyOperationAnswersANextState i t
    simp [step, hf, hu, thenAdvance] at h

/-- Under the invariant a busy sequencer has a micro-operation to run (`41_transmitter.md` R70). -/
theorem microAt_ne_none_of_busy {s : State} (hs : Inv s) (hb : s.txRun.busy = true) : s.microAt ≠ none := by
  obtain ⟨hinside, -⟩ := hs.txBusy hb
  simp [State.microAt, hinside]

/-- Settles O54: a fault is an overrun, and a legal busy sequencer is inside its program. -/
theorem legalStatesNeverFault : Obligations.LegalStatesNeverFault := by
  unfold Obligations.LegalStatesNeverFault
  intro s f hs h
  obtain ⟨hbusy, hend⟩ := State.fetch_eq_overrun (fetch_eq_overrun_of_step_eq_fault h)
  exact microAt_ne_none_of_busy hs hbusy hend

/-- A refusal mark refuses the step (`60_exceptions.md` R110). -/
theorem step_of_marked {s : State} {r : RefuseReason} (h : s.mark = some r) :
    step s = .refused (.markedRefused r) := by
  simp [step, State.fetch, h]

/-- Settles O49: the first step of the run is already refused. -/
theorem markedStateTakesNoStep : Obligations.MarkedStateTakesNoStep := by
  unfold Obligations.MarkedStateTakesNoStep
  intro s r hmark
  have hstep := step_of_marked hmark
  exact ⟨hstep, fun _ => runSteps_succ_of_refused hstep⟩

/-- No operation stops the tick source: RXBEGIN is the one writer of `tmr_en` and starts it (`42_receiver_config.md`
R84). -/
theorem exec_keeps_tmrEn {i : Instr} {s t : State} (h : exec i s = .next t) (hen : s.rxCfg.tmrEn = true) :
    t.rxCfg.tmrEn = true := by
  by_cases hcfg : t.rxCfg = s.rxCfg
  · rw [hcfg, hen]
  · obtain ⟨-, -, -, -, -, hwriter, -⟩ := registersHaveTheirWriters i s t h
    obtain ⟨pin, rate, rfl⟩ := hwriter hcfg
    obtain ⟨r, rfl⟩ | ⟨-, rfl⟩ := exec_rxbegin_cases h
    · exact hen
    · rfl

/-- A step of a running tick source is a reset or leaves it running. -/
theorem step_rst_or_keeps_tmrEn {s t : State} (h : step s = .next t) (hen : s.rxCfg.tmrEn = true) :
    s.turns.head? = some .rst ∨ t.rxCfg.tmrEn = true := by
  obtain ⟨-, hcases⟩ := step_next_cases h
  rcases hcases with ⟨-, -, he⟩ | ⟨-, rfl⟩ | ⟨ts, hrst, -⟩ | ⟨u, ts, -, rfl⟩ |
    ⟨ts, p, rest, e, -, -, -, -, rfl⟩ | ⟨ts, p, rest, i, -, -, -, -, he⟩ |
    ⟨ts, u, m, -, -, -, he, rfl⟩ | ⟨ts, level, -, -, he⟩
  · exact .inr (exec_keeps_tmrEn he hen)
  · exact .inr hen
  · exact .inl (by rw [hrst, List.head?_cons])
  · exact .inr hen
  · exact .inr hen
  · exact .inr (exec_keeps_tmrEn he hen)
  · have hm : m.rxCfg.tmrEn = true := exec_keeps_tmrEn he hen
    exact .inr hm
  · exact .inr (exec_keeps_tmrEn he hen)

/-- Settles O55: what is no reset leaves the tick source running. -/
theorem onlyResetStopsTheTickSource : Obligations.OnlyResetStopsTheTickSource := by
  unfold Obligations.OnlyResetStopsTheTickSource
  intro s t h hen hoff
  rcases step_rst_or_keeps_tmrEn h hen with hrst | hon
  · exact hrst
  · rw [hoff] at hon
    cases hon

end Sys2Proof.Machine
end

section
/-! PROOFS. The transmitter and the receiver share no state (`60_exceptions.md` R121): an operation of one side keeps the
other side's part, and what it leaves in its own part depends on that part and the clock. -/

namespace Sys2Proof.Machine

/-- The two states agree on the clock and on the transmitter's part. -/
structure SameTransmitter (a b : State) : Prop where
  clock : a.coreClockHz = b.coreClockHz
  config : a.txCfg = b.txCfg
  run : a.txRun = b.txRun
  trace : a.txTrace = b.txTrace
  draws : a.draws = b.draws

/-- The two states agree on the clock and on the receiver's part. -/
structure SameReceiver (a b : State) : Prop where
  clock : a.coreClockHz = b.coreClockHz
  config : a.rxCfg = b.rxCfg
  decoder : a.dec = b.dec
  held : a.readHeld = b.readHeld
  results : a.results = b.results

/-- The operations of the transmitter (`41_transmitter.md`); the others are the receiver's. -/
def transmitterOp : Instr → Bool
  | .txbegin _ _ | .txsend _ | .tgl | .waith | .waitf | .drvlo => true
  | .rxbegin _ _ | .rxhas | .rxread | .tick _ => false

section Sides

variable {i : Instr} {a b a' b' : State}

theorem SameTransmitter.symm (h : SameTransmitter a b) : SameTransmitter b a :=
  ⟨h.clock.symm, h.config.symm, h.run.symm, h.trace.symm, h.draws.symm⟩

theorem SameTransmitter.trans {c : State} (h : SameTransmitter a b) (h' : SameTransmitter b c) : SameTransmitter a c :=
  ⟨h.clock.trans h'.clock, h.config.trans h'.config, h.run.trans h'.run, h.trace.trans h'.trace,
    h.draws.trans h'.draws⟩

theorem SameReceiver.symm (h : SameReceiver a b) : SameReceiver b a :=
  ⟨h.clock.symm, h.config.symm, h.decoder.symm, h.held.symm, h.results.symm⟩

theorem SameReceiver.trans {c : State} (h : SameReceiver a b) (h' : SameReceiver b c) : SameReceiver a c :=
  ⟨h.clock.trans h'.clock, h.config.trans h'.config, h.decoder.trans h'.decoder, h.held.trans h'.held,
    h.results.trans h'.results⟩

/-- An operation answers one state only. -/
theorem exec_next_unique (h : exec i a = .next a') (h' : exec i a = .next b') : a' = b' :=
  Host.Outcome.next.inj (h.symm.trans h')

/-- An operation of the receiver keeps the transmitter's part. -/
theorem exec_keeps_transmitter (hi : transmitterOp i = false) (h : exec i a = .next a') :
    SameTransmitter a a' := by
  cases i with
  | rxbegin pin rate => obtain ⟨r, rfl⟩ | ⟨-, rfl⟩ := exec_rxbegin_cases h <;> exact ⟨rfl, rfl, rfl, rfl, rfl⟩
  | rxhas => obtain rfl := eq_of_exec_rxhas h; exact ⟨rfl, rfl, rfl, rfl, rfl⟩
  | rxread => obtain ⟨-, rfl⟩ | ⟨-, rfl⟩ := exec_rxread_cases h <;> exact ⟨rfl, rfl, rfl, rfl, rfl⟩
  | tick level => obtain rfl := eq_of_exec_tick h; exact ⟨rfl, rfl, rfl, rfl, rfl⟩
  | txbegin _ _ | txsend _ | tgl | waith | waitf | drvlo => cases hi

/-- An operation of the transmitter keeps the receiver's part. -/
theorem exec_keeps_receiver (hi : transmitterOp i = true) (h : exec i a = .next a') : SameReceiver a a' := by
  cases i with
  | txbegin pin rate => obtain ⟨r, rfl⟩ | ⟨-, rfl⟩ := exec_txbegin_cases h <;> exact ⟨rfl, rfl, rfl, rfl, rfl⟩
  | txsend data => obtain ⟨r, rfl⟩ | ⟨-, rfl⟩ := exec_txsend_cases h <;> exact ⟨rfl, rfl, rfl, rfl, rfl⟩
  | tgl => obtain rfl := eq_of_exec_tgl h; exact ⟨rfl, rfl, rfl, rfl, rfl⟩
  | waith => obtain rfl := eq_of_exec_waith h; exact ⟨rfl, rfl, rfl, rfl, rfl⟩
  | waitf => obtain rfl := eq_of_exec_waitf h; exact ⟨rfl, rfl, rfl, rfl, rfl⟩
  | drvlo => obtain rfl := eq_of_exec_drvlo h; exact ⟨rfl, rfl, rfl, rfl, rfl⟩
  | rxbegin _ _ | rxhas | rxread | tick _ => cases hi

/-- A refusal is no part of the transmitter. -/
theorem SameTransmitter.refuse (h : SameTransmitter a b) (r : RefuseReason) :
    SameTransmitter (a.refuse r) (b.refuse r) :=
  ⟨h.clock, h.config, h.run, h.trace, h.draws⟩

/-- A drive of the line records the transmitter's own time. -/
theorem SameTransmitter.driveLine (h : SameTransmitter a b) {x y : Level} (hl : x = y) :
    SameTransmitter (a.driveLine x) (b.driveLine y) :=
  ⟨h.clock, h.config, by simp [h.run, hl], by simp [h.run, h.trace, hl], h.draws⟩

/-- A wait moves the transmitter's own time on. -/
theorem SameTransmitter.waitCycles (h : SameTransmitter a b) {n m : Nat} (hn : n = m) :
    SameTransmitter (a.waitCycles n) (b.waitCycles m) :=
  ⟨h.clock, h.config, by simp [h.run, hn], h.trace, h.draws⟩

/-- What an operation of the transmitter leaves in the transmitter's part depends on that part and the clock. -/
theorem exec_transmitter_congr (hi : transmitterOp i = true) (h : SameTransmitter a b)
    (ha : exec i a = .next a') (hb : exec i b = .next b') : SameTransmitter a' b' := by
  cases i with
  | txbegin pin rate =>
    cases hr : txRateRefusal a.coreClockHz.val rate.toNat with
    | some r =>
      obtain rfl := exec_next_unique (exec_txbegin_of_refusal pin hr) ha
      obtain rfl := exec_next_unique (exec_txbegin_of_refusal pin (h.clock ▸ hr)) hb
      exact h.refuse r
    | none =>
      obtain rfl := exec_next_unique (exec_txbegin_of_accepted pin hr) ha
      obtain rfl := exec_next_unique (exec_txbegin_of_accepted pin (h.clock ▸ hr)) hb
      exact ⟨h.clock, by simp [h.clock], by simp [h.run, h.draws], h.trace, by simp [h.draws]⟩
  | txsend data =>
    cases hv : a.txCfg.cfgValid with
    | false =>
      obtain rfl := exec_next_unique (exec_txsend_of_unconfigured data hv) ha
      obtain rfl := exec_next_unique (exec_txsend_of_unconfigured data (h.config ▸ hv)) hb
      exact h.refuse .sendBeforeBegin
    | true =>
      obtain rfl := exec_next_unique (exec_txsend_of_configured data hv) ha
      obtain rfl := exec_next_unique (exec_txsend_of_configured data (h.config ▸ hv)) hb
      exact ⟨h.clock, h.config, by simp [h.run], by simp [h.run, h.trace], h.draws⟩
  | tgl =>
    obtain rfl := eq_of_exec_tgl ha
    obtain rfl := eq_of_exec_tgl hb
    exact h.driveLine (by rw [h.run])
  | waith =>
    obtain rfl := eq_of_exec_waith ha
    obtain rfl := eq_of_exec_waith hb
    exact h.waitCycles (by rw [h.config])
  | waitf =>
    obtain rfl := eq_of_exec_waitf ha
    obtain rfl := eq_of_exec_waitf hb
    exact h.waitCycles (by rw [h.config])
  | drvlo =>
    obtain rfl := eq_of_exec_drvlo ha
    obtain rfl := eq_of_exec_drvlo hb
    exact h.driveLine rfl
  | rxbegin _ _ | rxhas | rxread | tick _ => cases hi

/-- What an operation of the receiver leaves in the receiver's part depends on that part and the clock. -/
theorem exec_receiver_congr (hi : transmitterOp i = false) (h : SameReceiver a b)
    (ha : exec i a = .next a') (hb : exec i b = .next b') : SameReceiver a' b' := by
  cases i with
  | rxbegin pin rate =>
    cases hr : rxRateRefusal a.coreClockHz.val rate.toNat with
    | some r =>
      obtain rfl := exec_next_unique (exec_rxbegin_of_refusal pin hr) ha
      obtain rfl := exec_next_unique (exec_rxbegin_of_refusal pin (h.clock ▸ hr)) hb
      exact ⟨h.clock, h.config, h.decoder, h.held, h.results⟩
    | none =>
      obtain rfl := exec_next_unique (exec_rxbegin_of_accepted pin hr) ha
      obtain rfl := exec_next_unique (exec_rxbegin_of_accepted pin (h.clock ▸ hr)) hb
      exact ⟨h.clock, by simp [h.clock], rfl, h.held, h.results⟩
  | rxhas =>
    obtain rfl := eq_of_exec_rxhas ha
    obtain rfl := eq_of_exec_rxhas hb
    exact ⟨h.clock, h.config, h.decoder, h.held, by simp [h.results, h.decoder]⟩
  | rxread =>
    by_cases hd : a.dec.status = .done
    · obtain rfl := exec_next_unique (exec_rxread_of_done hd) ha
      obtain rfl := exec_next_unique (exec_rxread_of_done (h.decoder ▸ hd)) hb
      exact ⟨h.clock, h.config, by simp [h.decoder], rfl, by simp [h.results, h.decoder]⟩
    · obtain rfl := exec_next_unique (exec_rxread_of_not_done hd) ha
      obtain rfl := exec_next_unique (exec_rxread_of_not_done (h.decoder ▸ hd)) hb
      exact ⟨h.clock, h.config, h.decoder, rfl, h.results⟩
  | tick level =>
    obtain rfl := eq_of_exec_tick ha
    obtain rfl := eq_of_exec_tick hb
    exact ⟨h.clock, h.config, by simp [h.decoder], h.held, h.results⟩
  | txbegin _ _ | txsend _ | tgl | waith | waitf | drvlo => cases hi

/-- Every operation takes states with one transmitter's part to states with one transmitter's part. -/
theorem exec_sameTransmitter (h : SameTransmitter a b) (ha : exec i a = .next a') (hb : exec i b = .next b') :
    SameTransmitter a' b' := by
  cases hi : transmitterOp i with
  | true => exact exec_transmitter_congr hi h ha hb
  | false => exact (exec_keeps_transmitter hi ha).symm.trans (h.trans (exec_keeps_transmitter hi hb))

/-- Every operation takes states with one receiver's part to states with one receiver's part. -/
theorem exec_sameReceiver (h : SameReceiver a b) (ha : exec i a = .next a') (hb : exec i b = .next b') :
    SameReceiver a' b' := by
  cases hi : transmitterOp i with
  | true => exact (exec_keeps_receiver hi ha).symm.trans (h.trans (exec_keeps_receiver hi hb))
  | false => exact exec_receiver_congr hi h ha hb

end Sides

/-- Settles O56: an operation of the other side keeps the part, and one of the part's own side reads no other. -/
theorem transmitterAndReceiverShareNoState : Obligations.TransmitterAndReceiverShareNoState := by
  unfold Obligations.TransmitterAndReceiverShareNoState
  intro i a b a' b' ha hb hclock
  constructor
  · intro hconfig hrun htrace hdraws
    have h := exec_sameTransmitter ⟨hclock, hconfig, hrun, htrace, hdraws⟩ ha hb
    exact ⟨h.config, h.run, h.trace, h.draws⟩
  · intro hconfig hdecoder hheld hresults
    have h := exec_sameReceiver ⟨hclock, hconfig, hdecoder, hheld, hresults⟩ ha hb
    exact ⟨h.config, h.decoder, h.held, h.results⟩

end Sys2Proof.Machine
end

section
/-! PROOFS. Power-on reset (`70_reset_and_hazards.md` R125). -/

namespace Sys2Proof.Machine

/-- The turn of `rst`: the registers are reset and no operation runs. -/
theorem step_rst {s : State} {ts : List Turn} (hs : ScheduleDecides s) (ht : s.turns = .rst :: ts) :
    step s = .next (s.withTurns ts).powerOnReset := by
  have hfetch : s.fetch = .quiet (s.withTurns ts).powerOnReset := by
    obtain ⟨hmark, hread⟩ := hs
    exact State.fetch_of_turn hmark hread ht
  simp only [step, hfetch]

/-- What power-on reset leaves is the reset state with the outside world's part kept (log 12). -/
theorem powerOnReset_eq {s : State} (hmark : s.mark = none) : s.powerOnReset = { State.reset with
    coreClockHz := s.coreClockHz, results := s.results, txTrace := s.txTrace, hostProg := s.hostProg,
    turns := s.turns, draws := s.draws } := by
  simp [State.powerOnReset, State.reset, hmark]

/-- Settles O51: the turn of `rst` is a power-on reset, and the views read the reset registers. -/
theorem powerOnResetRestoresRegisters : Obligations.PowerOnResetRestoresRegisters := by
  unfold Obligations.PowerOnResetRestoresRegisters
  intro s ts hs ht
  have hmark : (s.withTurns ts).mark = none := hs.1
  exact ⟨_, step_rst hs ht, powerOnReset_eq hmark, rfl, rfl, rfl, rfl⟩

end Sys2Proof.Machine
end

section
/-! PROOFS. Cells inside the rate window (`70_reset_and_hazards.md` R135), and acquisition from inside the preamble
(`70_reset_and_hazards.md` R134). -/

namespace Sys2Proof.Machine

/-- A decoder in READING with no bits and a fresh cell is right after the start marker. -/
theorem eq_atCell_reading {c : Decoder} (hstatus : c.status = .reading) (hbits : c.bitsReceived = 0#8)
    (hticks : c.ticksSinceTransition = 0#8) (htrans : c.transitionsThisCell = 0#2) :
    c = atCell .reading c.shiftRegister 0 c.previousLevel := by
  obtain ⟨status, shift, bits, ticks, transitions, level⟩ := c
  subst hstatus hbits hticks htrans
  rfl

/-- Settles O36: the payload's cells, whatever the shift register held. -/
theorem payloadDecodesInsideRateWindow : Obligations.PayloadDecodesInsideRateWindow := by
  unfold Obligations.PayloadDecodesInsideRateWindow
  intro d ks c hbits hwindows hstatus hzero hticks htrans
  have hpayload := through_payload ⟨hbits, hwindows⟩ c.shiftRegister c.previousLevel
  rw [← eq_atCell_reading hstatus hzero hticks htrans] at hpayload
  rw [hpayload.ends]
  exact ⟨rfl, rfl⟩

/-- The bits of a frame with `n` preamble bits, up to the payload's last (`43_decoder.md` R98). -/
def frameBits (n : Nat) (d : Payload) : List Bool := List.replicate n true ++ [false] ++ payloadBits d

/-- Eight preamble bits or more, the start marker and the payload, in cells of any lengths inside their windows, are
received (`43_decoder.md` R91 and R94, `70_reset_and_hazards.md` R135). -/
theorem Carries.received {n : Nat} {d : Payload} {ks : List Cell} (hks : Carries (frameBits n d) ks) (hn : 8 ≤ n)
    (x : Level) : decoderFeed (cellsSamples ks x) (initTick x) =
      atCell .done d 32 (levelAtEnd (payloadBits d) (!x)) := by
  obtain ⟨m, rfl⟩ := Nat.exists_eq_add_of_le hn
  rw [frameBits, List.replicate_add, List.append_assoc (List.replicate 8 true)] at hks
  obtain ⟨js, ps, rfl, hframe, hpayload⟩ := carries_append_iff.mp hks
  obtain ⟨is, ms, rfl, hpreamble, hmarker⟩ := carries_append_iff.mp hframe
  have hidle : Through .idle (cellsSamples is x) (initTick x) (atCell .sync 0#32 8 x) :=
    through_idle hpreamble (m := 0) (by omega) (by omega) 0#32 x
  have hsync := through_startMarker hmarker 8 0#32 x
  have hreading := through_payload hpayload 0#32 (!x)
  have hlevel : levelAtEnd ((is ++ ms).map Cell.bit) x = !x := by
    rw [hframe.bits]
    simp [levelAtEnd_eq_xor, List.count_replicate]
  rw [cellsSamples_append, cellsSamples_append, hlevel, hpreamble.bits, levelAtEnd_replicate_true, decoderFeed_append,
    decoderFeed_append, hidle.ends, hsync.ends, hreading.ends]

/-- The ideal frame from preamble symbol `m` on, with `n` preamble symbols left. -/
theorem idealSamples_drop_symbols (d : Payload) (l0 : Level) {m n : Nat} (h : m + n = 31) :
    (idealSamples d l0).drop (8 * m) = lineSamples (frameBits n d ++ [false]) l0 ++
      List.replicate (guardBits * oversampling) false := by
  have hsymbols : frameSymbols d = List.replicate m true ++ (frameBits n d ++ [false]) := by
    simp only [frameSymbols, frameBits, preambleTx, ← h, List.replicate_add, List.append_assoc]
  rw [idealSamples, hsymbols, lineSamples_append, levelAtEnd_replicate_true, List.append_assoc]
  exact List.drop_left' (by rw [length_lineSamples, List.length_replicate])

/-- The same as ideal cells after the first toggle (`43_decoder.md` R98). -/
theorem idealSamples_drop_eq_cells (d : Payload) (l0 : Level) {m n : Nat} (h : m + n = 31) :
    ∃ after, (idealSamples d l0).drop (8 * m) =
      (!l0) :: cellsSamples ((frameBits n d).map idealCell) (!l0) ++ after := by
  obtain ⟨after, hmarker⟩ := lineSamples_cons_eq false [] (levelAtEnd (frameBits n d) l0)
  refine ⟨after ++ List.replicate (guardBits * oversampling) false, ?_⟩
  rw [idealSamples_drop_symbols d l0 h, lineSamples_append, hmarker, ← List.singleton_append, ← List.append_assoc,
    lineSamples_append_toggle, List.append_assoc]

/-- The last tick of a preamble symbol has the line at the frame's start level. -/
theorem idealSamples_drop_lastTick (d : Payload) (l0 : Level) {m n : Nat} (h : m + (n + 1) = 31) :
    (idealSamples d l0).drop (8 * m + 7) = l0 :: (idealSamples d l0).drop (8 * (m + 1)) := by
  have hsymbol := idealSamples_drop_symbols d l0 h
  have hlast : 8 * (m + 1) = 8 * m + 8 := by omega
  rw [hlast, ← List.drop_drop, ← List.drop_drop, hsymbol]
  rfl

/-- A "1" cell that is seen from `i` ticks after its toggle on. -/
def lateCell (i : Nat) : Cell := ⟨true, 4 - i, 8 - i⟩

/-- Up to two ticks late, the middle of a "1" cell is still in its window. -/
theorem lateCell_inWindow {i : Nat} (hi : i ≤ 2) : (lateCell i).inWindow := by
  simp [lateCell, Cell.inWindow]
  omega

/-- An ideal "1" cell's ticks, its toggle's included, without the first `i`. -/
theorem drop_idealCell_one {i : Nat} (hi : i ≤ 2) (x : Level) :
    (x :: (idealCell true).samples x).drop i = x :: (lateCell i).samples x := by
  interval_cases i <;> rfl

/-- The ticks of a line hold an INIT tick of the decoder and then the cells of a frame with 8 preamble bits or more. -/
def LeadsToFrame (d : Payload) (c : Decoder) (ls : List Level) : Prop :=
  ∃ lead ks after n x, ls = lead ++ cellsSamples ks x ++ after ∧ decoderFeed lead c = initTick x ∧
    8 ≤ n ∧ Carries (frameBits n d) ks

/-- Such a line leaves the frame's payload in DONE. -/
theorem LeadsToFrame.received {d : Payload} {c : Decoder} {ls : List Level} (h : LeadsToFrame d c ls) :
    (decoderFeed ls c).status = .done ∧ (decoderFeed ls c).shiftRegister = d := by
  obtain ⟨lead, ks, after, n, x, rfl, hlead, hn, hks⟩ := h
  rw [decoderFeed_append, decoderFeed_append, hlead, hks.received hn, decoderFeed_of_done after rfl]
  exact ⟨rfl, rfl⟩

/-- From a state A just before a preamble symbol with 8 or more left (`43_decoder.md` R101). -/
theorem Acquirable.leadsToFrame {c : Decoder} {l0 : Level} (h : Acquirable c l0) (d : Payload) {m n : Nat}
    (hmn : m + n = 31) (hn : 8 ≤ n) : LeadsToFrame d c ((idealSamples d l0).drop (8 * m)) := by
  obtain ⟨after, hsamples⟩ := idealSamples_drop_eq_cells d l0 hmn
  obtain ⟨lead, ks, hacq⟩ := Acquirable.acquires h (bs := frameBits n d) (by simp [frameBits])
  exact ⟨lead, ks, after, n, !l0, by rw [hsamples, hacq.samples], hacq.ends, hn, hacq.carries⟩

/-- The INIT tick up to two ticks after a preamble symbol's toggle. -/
theorem leadsToFrame_of_init_late {c : Decoder} (hc : c.status = .init) (d : Payload) (l0 : Level) {m n i : Nat}
    (hmn : m + n = 31) (hn : 8 ≤ n) (hi : i ≤ 2) : LeadsToFrame d c ((idealSamples d l0).drop (8 * m + i)) := by
  obtain ⟨after, hsamples⟩ := idealSamples_drop_eq_cells d l0 hmn
  obtain ⟨n, rfl⟩ := Nat.exists_eq_add_one_of_ne_zero (by omega : n ≠ 0)
  have hcells : cellsSamples ((frameBits (n + 1) d).map idealCell) (!l0) =
      (idealCell true).samples (!l0) ++ cellsSamples ((frameBits n d).map idealCell) (!l0) := rfl
  have hcarries : Carries (frameBits (n + 1) d) (lateCell i :: (frameBits n d).map idealCell) :=
    carries_cons_iff.mpr ⟨_, _, rfl, rfl, lateCell_inWindow hi, carries_idealCells _⟩
  refine ⟨[!l0], _, after, n + 1, !l0, ?_, decoderTick_of_init _ hc, hn, hcarries⟩
  rw [← List.drop_drop, hsamples, hcells, ← List.cons_append, List.append_assoc,
    List.drop_append_of_le_length (by rw [List.length_cons, length_idealCell_samples]; omega), drop_idealCell_one hi]
  simp [cellsSamples, lateCell, levelAfter]

/-- The INIT tick on the last tick before a preamble symbol's toggle: IDLE with no tick counted is a state A. -/
theorem leadsToFrame_of_init_lastTick {c : Decoder} (hc : c.status = .init) (d : Payload) (l0 : Level) {m n : Nat}
    (hmn : m + (n + 1) = 31) (hn : 8 ≤ n) : LeadsToFrame d c ((idealSamples d l0).drop (8 * m + 7)) := by
  have hacq : Acquirable (initTick l0) l0 := .inr (.inr ⟨rfl, rfl, rfl, by simp [initTick, Decoder.reset]⟩)
  obtain ⟨lead, ks, after, k, x, hsamples, hlead, hk, hks⟩ :=
    Acquirable.leadsToFrame hacq d (m := m + 1) (n := n) (by omega) hn
  refine ⟨l0 :: lead, ks, after, k, x, ?_, ?_, hk, hks⟩
  · rw [idealSamples_drop_lastTick d l0 hmn, hsamples]
    rfl
  · rw [decoderFeed_cons, decoderTick_of_init l0 hc, hlead]

/-- Settles O40: the INIT tick is on the last tick before a preamble symbol or on one of its first three. -/
theorem acquisitionInsidePreamble : Obligations.AcquisitionInsidePreamble := by
  unfold Obligations.AcquisitionInsidePreamble
  intro d l0 c j hc hj
  apply LeadsToFrame.received
  by_cases hlast : j % 8 = 0
  · have hdrop : j - 1 = 8 * (j / 8 - 1) + 7 := by omega
    rw [hdrop]
    exact leadsToFrame_of_init_lastTick hc d l0 (n := 31 - j / 8) (by omega) (by omega)
  · have hdrop : j - 1 = 8 * (j / 8) + (j % 8 - 1) := by omega
    rw [hdrop]
    exact leadsToFrame_of_init_late hc d l0 (n := 31 - j / 8) (by omega) (by omega) (by omega)

end Sys2Proof.Machine
end

section
/-! PROOFS. The read window between back-to-back frames (`70_reset_and_hazards.md` R133): after the read, what is left of
the frame takes the decoder to a state A. -/

namespace Sys2Proof.Machine

/-- A line that has been silent for 14 ticks, whatever the cell holds (`43_decoder.md` R99 and R101). -/
theorem acquirable_of_silent {c : Decoder} (hidle : c.status = .idle) {n : Nat} (hn : 14 ≤ n) :
    Acquirable (decoderFeed (List.replicate n c.previousLevel) c) c.previousLevel := by
  rw [decoderFeed_silent n ⟨by simp [hidle], by simp [hidle]⟩]
  refine .inr (.inl ⟨.inl hidle, rfl, ?_⟩)
  rw [BitVec.toNat_ofNat]
  omega

/-- From INIT a steady line is its INIT tick and silent ticks after it (`43_decoder.md` R88 and R99). -/
theorem decoderFeed_replicate_of_init {c : Decoder} (hc : c.status = .init) (m : Nat) (x : Level) :
    decoderFeed (List.replicate (m + 1) x) c =
      { initTick x with ticksSinceTransition := BitVec.ofNat 8 (min m 255) } := by
  have hsilent := decoderFeed_silent m (c := initTick x) ⟨nofun, nofun⟩
  have hzero : (initTick x).ticksSinceTransition.toNat + m = m := Nat.zero_add m
  rw [hzero] at hsilent
  rw [List.replicate_succ, decoderFeed_cons, decoderTick_of_init x hc]
  exact hsilent

/-- From INIT a steady line is a state A, but for 1 to 5 silent ticks after the INIT tick (`43_decoder.md` R101 and
R102). -/
theorem acquirable_of_init {c : Decoder} (hc : c.status = .init) {n : Nat} (hn : n ≤ 1 ∨ 7 ≤ n) (x : Level) :
    Acquirable (decoderFeed (List.replicate n x) c) x := by
  cases n with
  | zero => exact .inl hc
  | succ m =>
    rw [decoderFeed_replicate_of_init hc]
    refine .inr (.inr ⟨rfl, rfl, rfl, ?_⟩)
    rw [BitVec.toNat_ofNat]
    omega

/-- A first transition in IDLE discards the frame or waits for the second (`43_decoder.md` R90 to R92). -/
theorem TransitionAt.first_idle {c : Decoder} {level : Level} {t : Nat} (h : TransitionAt c level t)
    (hidle : c.status = .idle) (hn : c.transitionsThisCell = 0#2) :
    (decoderTick level c).status = .init ∨ decoderTick level c = c.sampled level t 1#2 := by
  rcases (by omega : (t < 2 ∨ 14 < t) ∨ (7 ≤ t ∧ t ≤ 14) ∨ (2 ≤ t ∧ t ≤ 6)) with hout | ⟨hlow, hhigh⟩ | ⟨hlow, hhigh⟩
  · left
    rw [h.first_outOfWindow hn hout, discardFrame_status]
  · left
    rw [h.first_long hn hlow hhigh, zeroSymbol_eq]
    simp [Decoder.sampled, hidle]
  · exact .inr (h.first_short hn hlow hhigh)

/-- From IDLE with no transition in the cell, 15 ticks of one level are a state A, whichever level it was before. -/
theorem acquirable_of_idle {c : Decoder} (hidle : c.status = .idle) (hn : c.transitionsThisCell = 0#2) {n : Nat}
    (hlong : 15 ≤ n) (x : Level) : Acquirable (decoderFeed (List.replicate n x) c) x := by
  by_cases hx : x = c.previousLevel
  · rw [hx]
    exact acquirable_of_silent hidle (by omega)
  · obtain ⟨m, rfl⟩ : ∃ m, n = m + 1 := ⟨n - 1, by omega⟩
    have htoggle : TransitionAt c x _ := ⟨⟨by simp [hidle], by simp [hidle]⟩, hx, rfl⟩
    rw [List.replicate_succ, decoderFeed_cons]
    rcases htoggle.first_idle hidle hn with hinit | hwait
    · exact acquirable_of_init hinit (.inr (by omega)) x
    · rw [hwait]
      exact acquirable_of_silent (c := c.sampled x _ 1#2) hidle (by omega)

/-- The end of the ideal frame: the rest of the end marker's bit at one level, and the rest of the guard. -/
theorem idealSamples_drop_end (d : Payload) (l0 : Level) {k : Nat} (hk : 512 ≤ k) :
    ∃ y, (idealSamples d l0).drop k = List.replicate (520 - k) y ++ List.replicate (32 - (k - 520)) false := by
  have hmarker : lineSamples [false] (levelAtEnd (resolvedSymbols d) l0) =
      List.replicate 8 (!(levelAtEnd (resolvedSymbols d) l0)) := rfl
  have hlength : (lineSamples (resolvedSymbols d) l0).length = 512 := by
    rw [length_lineSamples]
    simp [resolvedSymbols]
  have hframe : (idealSamples d l0).drop 512 =
      List.replicate 8 (!(levelAtEnd (resolvedSymbols d) l0)) ++ List.replicate 32 false := by
    rw [idealSamples, frameSymbols_eq, lineSamples_append, hmarker, List.append_assoc, List.drop_left' hlength]
    rfl
  obtain ⟨i, rfl⟩ := Nat.exists_eq_add_of_le hk
  refine ⟨!(levelAtEnd (resolvedSymbols d) l0), ?_⟩
  rw [← List.drop_drop, hframe, List.drop_append, List.drop_replicate, List.drop_replicate, List.length_replicate,
    show 520 - (512 + i) = 8 - i by omega, show 512 + i - 520 = i - 8 by omega]

/-- A read in the window leaves a state A before the next frame, which starts from the guard's low level
(`70_reset_and_hazards.md` R133). -/
theorem acquirable_after_read {c : Decoder} (hc : c.status = .init) (d : Payload) (l0 : Level) {k : Nat}
    (hk : (513 ≤ k ∧ k ≤ 545) ∨ k = 551 ∨ k = 552) :
    Acquirable (decoderFeed ((idealSamples d l0).drop k) c) false := by
  obtain ⟨y, htail⟩ := idealSamples_drop_end d l0 (k := k) (by omega)
  rw [htail, decoderFeed_append]
  by_cases hmarker : k < 520
  · obtain ⟨m, hm⟩ : ∃ m, 520 - k = m + 1 := ⟨519 - k, by omega⟩
    rw [hm, decoderFeed_replicate_of_init hc]
    exact acquirable_of_idle rfl rfl (by omega) false
  · have hnone : 520 - k = 0 := by omega
    rw [hnone]
    exact acquirable_of_init hc (by omega) false

/-- The decoder at frame tick 513 and at every later one of the frame. -/
theorem Reception.feed_take_of_le {d : Payload} {l0 : Level} {c : Decoder} (r : Reception d l0 c) {k : Nat}
    (hk : 513 ≤ k) : decoderFeed ((idealSamples d l0).take k) c =
      atCell .done d 32 (levelAtEnd (payloadBits d) l0) := by
  obtain ⟨i, rfl⟩ := Nat.exists_eq_add_of_le hk
  rw [List.take_add, decoderFeed_append, r.feed_take]
  exact decoderFeed_of_done _ rfl

/-- Settles O39: the read returns the word and sets INIT, and the next frame finds a state A. -/
theorem readWindowKeepsNextFrame : Obligations.ReadWindowKeepsNextFrame := by
  unfold Obligations.ReadWindowKeepsNextFrame
  intro d e l0 s k hacq hk
  obtain ⟨r⟩ := Acquirable.reception hacq d
  rw [r.feed_take_of_le (by omega)]
  refine ⟨_, exec_rxread_of_done rfl, rfl, ?_⟩
  obtain ⟨r'⟩ := Acquirable.reception (acquirable_after_read (c := discardFrame (atCell .done d 32 _)) rfl d l0 hk) e
  rw [decoderFeed_append]
  exact ⟨congrArg Decoder.status r'.feed_frame, congrArg Decoder.shiftRegister r'.feed_frame⟩

end Sys2Proof.Machine
end

section
/-! PROOFS. The decoder on the complemented line (`92_eei_decisions.md` D10, `93_implementation_defined.md` section 2):
a level is only ever compared with the one before it, so complementing both commutes with every step of a tick. -/

namespace Sys2Proof.Machine

/-- The same decoder with the complemented previous level. -/
def Decoder.complemented (c : Decoder) : Decoder := { c with previousLevel := !c.previousLevel }

/-- The complement keeps the tick count. -/
@[simp] theorem complemented_ticks (c : Decoder) : c.complemented.ticksSinceTransition = c.ticksSinceTransition := rfl

/-- The complement keeps the transition count. -/
@[simp] theorem complemented_transitions (c : Decoder) :
    c.complemented.transitionsThisCell = c.transitionsThisCell := rfl

/-- A discarded frame keeps its level. -/
theorem discardFrame_complemented (c : Decoder) : discardFrame c.complemented = (discardFrame c).complemented := rfl

/-- The end of a "0" symbol reads no level. -/
theorem zeroSymbol_complemented (c : Decoder) : zeroSymbol c.complemented = (zeroSymbol c).complemented := by
  obtain ⟨status⟩ := c
  cases status <;> rfl

/-- The end of a "1" symbol reads no level. -/
theorem oneSymbol_complemented (c : Decoder) : oneSymbol c.complemented = (oneSymbol c).complemented := by
  obtain ⟨status⟩ := c
  cases status <;> rfl

/-- A first transition is judged by its tick count alone. -/
theorem firstTransition_complemented (c : Decoder) :
    firstTransition c.complemented = (firstTransition c).complemented := by
  simp only [firstTransition, complemented_ticks, discardFrame_complemented, zeroSymbol_complemented,
    apply_ite Decoder.complemented]

/-- A second transition is judged by its tick count alone. -/
theorem secondTransition_complemented (c : Decoder) :
    secondTransition c.complemented = (secondTransition c).complemented := by
  simp only [secondTransition, complemented_ticks, discardFrame_complemented, oneSymbol_complemented,
    apply_ite Decoder.complemented]

/-- A transition counted in its cell (`43_decoder.md` R89). -/
def Decoder.counted (c : Decoder) : Decoder := { c with transitionsThisCell := satInc c.transitionsThisCell }

/-- A transition is counted first, and then the count says which it is (`43_decoder.md` R89 to R95). -/
theorem onTransition_eq (c : Decoder) : onTransition c =
    if c.counted.transitionsThisCell = 1#2 then firstTransition c.counted
    else if c.counted.transitionsThisCell = 2#2 then secondTransition c.counted
    else discardFrame c.counted := rfl

/-- What a transition does depends on the counters and the status, not on its direction. -/
theorem onTransition_complemented (c : Decoder) :
    onTransition c.complemented = (onTransition c).complemented := by
  have hcounted : c.complemented.counted = c.counted.complemented := rfl
  simp only [onTransition_eq, hcounted, complemented_transitions, firstTransition_complemented,
    secondTransition_complemented, discardFrame_complemented, apply_ite Decoder.complemented]

/-- Complemented levels differ where the levels do. -/
theorem sampleLine_complemented (level : Level) (c : Decoder) :
    sampleLine (!level) c.complemented = (sampleLine level c).complemented := by
  by_cases hl : level = c.previousLevel
  · subst hl
    rw [sampleLine_silent]
    exact sampleLine_silent c.complemented
  · have hchanged : (!level) ≠ c.complemented.previousLevel := fun h => hl (Bool.not_inj h)
    rw [sampleLine_transition hl, sampleLine_transition hchanged, ← onTransition_complemented]
    rfl

/-- One tick of the complemented line, by status. -/
theorem decoderTick_complemented (level : Level) (c : Decoder) :
    decoderTick (!level) c.complemented = (decoderTick level c).complemented := by
  rcases decoderTick_cases level c with ⟨hdone, he⟩ | ⟨hinit, he⟩ | ⟨hdone, hinit, he⟩
  · rw [he, decoderTick_of_done (c := c.complemented) _ hdone]
  · rw [he, decoderTick_of_init (c := c.complemented) _ hinit]
    rfl
  · rw [he, decoderTick_of_sampling (c := c.complemented) _ ⟨hdone, hinit⟩, sampleLine_complemented]

/-- The complemented line over any number of ticks. -/
theorem decoderFeed_complemented (ls : List Level) (c : Decoder) :
    decoderFeed (ls.map (fun l => !l)) c.complemented = (decoderFeed ls c).complemented := by
  induction ls generalizing c with
  | nil => rfl
  | cons level ls ih => rw [List.map_cons, decoderFeed_cons, decoderFeed_cons, decoderTick_complemented, ih]

/-- Settles O33, by induction on the line: every tick commutes with the complement. -/
theorem decoderIsPolarityFree : Obligations.DecoderIsPolarityFree := by
  unfold Obligations.DecoderIsPolarityFree
  exact decoderFeed_complemented

end Sys2Proof.Machine
end
